-- ==== Sys2Proof/Word.lean ====
section
/-! DEFINITION. The two data widths of the hardware (spec/00_scope.md R5): a word is an unsigned integer of 32 bits, a
byte one of 8 bits, bit 0 the least significant. -/

namespace Sys2Proof

/-- A byte (00 R5). -/
abbrev Byte := BitVec 8

/-- A word (00 R5). -/
abbrev Word := BitVec 32

end Sys2Proof
end

