-- ==== Sys2Proof/Config.lean ====
section
/-! DEFINITION. What one implementation fixes: the open parameters of spec/00_scope.md R4 (LENW, K, IV) as the fields of
one structure with the spec's defaults, NINST, and the free values that stand for what an element which "holds no
value" shows a micro-operation (93_implementation_defined.md U2). An instance carries its configuration in
State.config, which no step writes (10_state.md R23: configuration, not state; log entry 18). -/

namespace Sys2Proof

/-- The table of 10 R21 as it is printed: row r, column c holds K[4r + c]. -/
def Config.kTable : List (List Word) :=
  [
    [0x428a2f98, 0x71374491, 0xb5c0fbcf, 0xe9b5dba5],
    [0x3956c25b, 0x59f111f1, 0x923f82a4, 0xab1c5ed5],
    [0xd807aa98, 0x12835b01, 0x243185be, 0x550c7dc3],
    [0x72be5d74, 0x80deb1fe, 0x9bdc06a7, 0xc19bf174],
    [0xe49b69c1, 0xefbe4786, 0x0fc19dc6, 0x240ca1cc],
    [0x2de92c6f, 0x4a7484aa, 0x5cb0a9dc, 0x76f988da],
    [0x983e5152, 0xa831c66d, 0xb00327c8, 0xbf597fc7],
    [0xc6e00bf3, 0xd5a79147, 0x06ca6351, 0x14292967],
    [0x27b70a85, 0x2e1b2138, 0x4d2c6dfc, 0x53380d13],
    [0x650a7354, 0x766a0abb, 0x81c2c92e, 0x92722c85],
    [0xa2bfe8a1, 0xa81a664b, 0xc24b8b70, 0xc76c51a3],
    [0xd192e819, 0xd6990624, 0xf40e3585, 0x106aa070],
    [0x19a4c116, 0x1e376c08, 0x2748774c, 0x34b0bcb5],
    [0x391c0cb3, 0x4ed8aa4a, 0x5b9cca4f, 0x682e6ff3],
    [0x748f82ee, 0x78a5636f, 0x84c87814, 0x8cc70208],
    [0x90befffa, 0xa4506ceb, 0xbef9a3f7, 0xc67178f2]]

/-- The default of `K`: the SHA-256 standard's round constants (10 R21). The spec takes the values from general
knowledge (93 G1): PRESUMED, log entry 7, unsafe. -/
def Config.standardK : Vector Word 64 := ⟨⟨Config.kTable.flatten⟩, rfl⟩

/-- The default of `IV`: the SHA-256 standard's initial hash value (10 R22). The spec takes the values from general
knowledge (93 G2): PRESUMED, log entry 7, unsafe. -/
def Config.standardIV : Vector Word 8 :=
  #v[
    0x6a09e667, 0xbb67ae85, 0x3c6ef372, 0xa54ff53a,
    0x510e527f, 0x9b05688c, 0x1f83d9ab, 0x5be0cd19]

/-- The configuration of one instance (00 R4, 93 part 3): the parameters that the spec leaves open, each with the
spec's default. -/
structure Config where
  /-- `LENW`, the width in bits of LEN (10 R12): default 8, any value of at least 7 is legal. -/
  lenw : Nat := 8
  /-- `K`, the round-constant ROM, read by RND only (10 R21). -/
  k : Vector Word 64 := Config.standardK
  /-- `IV`, the initial hash state, a ROM read by CHK only (10 R22). -/
  iv : Vector Word 8 := Config.standardIV
deriving DecidableEq, Repr

/-- The one constraint on the open parameters of an instance: LENW is at least 7 (00 R4). -/
abbrev Config.legal (c : Config) : Prop := 7 ≤ c.lenw

/-- `NINST`, the number of instances on a platform: the spec's default (00 R4, 60 R137). DESIGN CHOICE, log entry 8,
safe: a platform of any number is `Platform.reset` at that number. -/
def Config.NINST : Nat := 1

/-- The word-wide elements of the state that some micro-operation reads: the arguments of `Config.freeWord`. -/
inductive Element where
  | w (i : Fin 64)
  | a | b | c | d | e | f | g | h
  | hash (k : Fin 8)
deriving DecidableEq, Repr

/-- The FREE VALUE that BLK[j] shows a micro-operation while it holds no value (93 U2 "any value"), one for every
`epoch` of the state. It has no body: nothing can be proved of it. Log entry 4. -/
opaque Config.freeByte : Nat → Fin 64 → BitVec 8

/-- The FREE VALUE that a word-wide element shows a micro-operation while it holds no value (93 U2 "any value"), one
for every `epoch` of the state. It has no body: nothing can be proved of it. Log entry 4. -/
opaque Config.freeWord : Nat → Element → BitVec 32

end Sys2Proof
end

