-- ==== Sys2Proof/Syntax.lean ====
section
/-! DEFINITION. The names of the hardware: the nine phases (spec/30_encoding.md R46), the nine micro-operations (R48,
R55), the ways a SEQ value can be reserved (R49), and the ten host transactions (spec/45_host_interface.md R113). -/

namespace Sys2Proof

/-- The nine phases of the sequencer (30 R46). -/
inductive Phase where
  | idle | check | load | expand | init | rounds | final | done | error
deriving DecidableEq, Repr

/-- The micro-operations, one constructor per row of the opcode table (30 R48). The operands have the width of their
field in the table: `j` is SEQ[3:0], `i` is SEQ[5:0]. -/
inductive Instr where
  /-- WAIT: idle, waiting for a start (44 R103). -/
  | wait
  /-- CHK: check the block length, initialise the hash state (41 R75). -/
  | chk
  /-- LDW j: load schedule word j from the block (41 R76). -/
  | ldw (j : Fin 16)
  /-- EXP i: derive schedule word i, for i from 16 (41 R77); a smaller i is no micro-operation (30 R49). -/
  | exp (i : Fin 64)
  /-- INI: working registers from the hash state (42 R85). -/
  | ini
  /-- RND i: one compression round (42 R86). -/
  | rnd (i : Fin 64)
  /-- FIN: update the hash state and publish the results (43 R95). -/
  | fin
  /-- HLT: terminal state after success (44 R104). -/
  | hlt
  /-- ERH: terminal state after InvalidInput (44 R105). -/
  | erh
deriving DecidableEq, Repr

/-- Why a SEQ value is reserved (30 R49): its PHASE is one of 9 to 15, or its IDX is one its PHASE does not use. -/
inductive Reserved where
  | phase (code : BitVec 4)
  | index (code : BitVec 4) (idx : BitVec 6)
deriving DecidableEq, Repr

/-- The ten transactions of the host (45 R113); they have no bit encoding (30 R55). -/
inductive Transaction where
  /-- H_LOAD(bytes): present the input (45 R114). -/
  | load (bytes : List Byte)
  /-- H_START: request an invocation (45 R115). -/
  | start
  /-- H_READ_STATUS (45 R116). -/
  | readStatus
  /-- H_READ_W (45 R117). -/
  | readW
  /-- H_READ_TRACE (45 R117). -/
  | readTrace
  /-- H_READ_REGS (45 R117). -/
  | readRegs
  /-- H_READ_HASH (45 R117). -/
  | readHash
  /-- H_READ_DIGEST (45 R117). -/
  | readDigest
  /-- H_READ_BLK (45 R117). -/
  | readBlk
  /-- H_RESET (45 R118). -/
  | reset
deriving DecidableEq, Repr

end Sys2Proof
end

