-- ==== Sys2Proof/WellFormed.lean ====
section
/-! DEFINITION. Which terms of `Instr` are micro-operations of the hardware: all but an EXP whose index is below 16
(spec/30_encoding.md R48 "i = IDX in 16..63", R49). The other bounds of R48 hold by the operands' types. -/

namespace Sys2Proof

/-- The check of 30 R48's "further condition" column. -/
def Instr.wf : Instr → Bool
  | .wait => true
  | .chk => true
  | .ldw _ => true
  | .exp i => decide (16 ≤ i.val)
  | .ini => true
  | .rnd _ => true
  | .fin => true
  | .hlt => true
  | .erh => true

/-- `i` is one of the 134 micro-operations that some SEQ value selects. -/
abbrev WellFormed (i : Instr) : Prop := i.wf = true

end Sys2Proof
end

