-- ==== Sys2Proof/Decode.lean ====
section
/-! DEFINITION. The sequencer word SEQ and its decoding (spec/30_encoding.md R45 to R50): PHASE = SEQ[9:6],
IDX = SEQ[5:0]. The decoder is total; it answers a micro-operation or why the value is reserved (R49). After it the
encoder and the mask and match columns of R48. -/

namespace Sys2Proof

/-- The phase codes (30 R46). -/
def Phase.code : Phase → BitVec 4
  | .idle => 0
  | .check => 1
  | .load => 2
  | .expand => 3
  | .init => 4
  | .rounds => 5
  | .final => 6
  | .done => 7
  | .error => 8

/-- The phase a code names; none for the codes 9 to 15 (30 R46). -/
def Phase.ofCode (c : BitVec 4) : Option Phase :=
  match c.toNat with
  | 0 => some .idle
  | 1 => some .check
  | 2 => some .load
  | 3 => some .expand
  | 4 => some .init
  | 5 => some .rounds
  | 6 => some .final
  | 7 => some .done
  | 8 => some .error
  | _ => none

/-- PHASE = SEQ[9:6] (30 R45). -/
def seqPhase (q : BitVec 10) : BitVec 4 := q.extractLsb' 6 4

/-- IDX = SEQ[5:0] (30 R45). -/
def seqIdx (q : BitVec 10) : BitVec 6 := q.extractLsb' 0 6

/-- The sequencer word (P, n) (30 R45). -/
def seqOf (p : Phase) (n : BitVec 6) : BitVec 10 := p.code ++ n

/-- A phase that uses IDX = 0 only (30 R46, R49). -/
def decodeBare (i : Instr) (p : BitVec 4) (n : BitVec 6) : Except Reserved Instr :=
  if n = 0 then .ok i else .error (.index p n)

/-- The micro-operation a SEQ value selects, or why the value is reserved (30 R48, R49). -/
def decode (q : BitVec 10) : Except Reserved Instr :=
  let p := seqPhase q
  let n := seqIdx q
  match Phase.ofCode p with
  | none => .error (.phase p)
  | some .idle => decodeBare .wait p n
  | some .check => decodeBare .chk p n
  | some .load => if h : n.toNat < 16 then .ok (.ldw ⟨n.toNat, h⟩) else .error (.index p n)
  | some .expand => if 16 ≤ n.toNat then .ok (.exp ⟨n.toNat, n.isLt⟩) else .error (.index p n)
  | some .init => decodeBare .ini p n
  | some .rounds => .ok (.rnd ⟨n.toNat, n.isLt⟩)
  | some .final => decodeBare .fin p n
  | some .done => decodeBare .hlt p n
  | some .error => decodeBare .erh p n

/-- The SEQ value that selects a micro-operation (30 R48, R55). -/
def encode : Instr → BitVec 10
  | .wait => seqOf .idle 0
  | .chk => seqOf .check 0
  | .ldw j => seqOf .load (BitVec.ofNat 6 j.val)
  | .exp i => seqOf .expand (BitVec.ofNat 6 i.val)
  | .ini => seqOf .init 0
  | .rnd i => seqOf .rounds (BitVec.ofNat 6 i.val)
  | .fin => seqOf .final 0
  | .hlt => seqOf .done 0
  | .erh => seqOf .error 0

/-- The column "mask" of 30 R48. -/
def rowMask : Instr → BitVec 10
  | .wait => 0x3FF
  | .chk => 0x3FF
  | .ldw _ => 0x3F0
  | .exp _ => 0x3C0
  | .ini => 0x3FF
  | .rnd _ => 0x3C0
  | .fin => 0x3FF
  | .hlt => 0x3FF
  | .erh => 0x3FF

/-- The column "match" of 30 R48. -/
def rowMatch : Instr → BitVec 10
  | .wait => 0x000
  | .chk => 0x040
  | .ldw _ => 0x080
  | .exp _ => 0x0C0
  | .ini => 0x100
  | .rnd _ => 0x140
  | .fin => 0x180
  | .hlt => 0x1C0
  | .erh => 0x200

/-- What the decoder reads from an instruction whose `nbits` table bits are those of `w`, the bits above them zero:
the hardware stores no instruction, its one word is SEQ itself (30 R45); a number of more than 10 bits is none. -/
def decodeTableWord (nbits w : Nat) : Option Instr :=
  if w % 2 ^ nbits < 2 ^ 10 then
    match decode (BitVec.ofNat 10 (w % 2 ^ nbits)) with
    | .ok i => some i
    | .error _ => none
  else none

end Sys2Proof
end

