-- ==== Sys2Proof/Machine/State.lean ====
section
/-! DEFINITION. The complete state of one instance (spec/10_state.md R10), with the outside world's side of the host
interface beside it, the reasons a step can stop, and the state after reset (R26). "Holds no value" (spec/00_scope.md
R7) is the spec's own state of an element and is `none` (93_implementation_defined.md U2: "A model should represent it
as an absent value (an option type), not as a chosen number"). -/

namespace Sys2Proof.Machine

/-- The byte store BLK (20 R30), the one store of bytes: addresses 0..63, strictly rising, an unlisted address holds
no value. -/
abbrev Memory := List Host.Cell

/-- The eight working registers as values (10 R14). -/
structure WorkingRegs where
  a : Word
  b : Word
  c : Word
  d : Word
  e : Word
  f : Word
  g : Word
  h : Word
deriving DecidableEq, Repr

/-- One record of TRACE: its twelve 32-bit slots in order (10 R17, 30 R52). -/
structure TraceRecord where
  idx : Word
  w : Word
  a : Word
  b : Word
  c : Word
  d : Word
  e : Word
  f : Word
  g : Word
  h : Word
  t1 : Word
  t2 : Word
deriving DecidableEq, Repr

/-- The width of the status word: SEQ, VALID, ERR, ECODE, LEN (30 R51). -/
abbrev statusWidth (lenw : Nat) : Nat := 10 + 1 + 1 + 2 + lenw

/-- What a read transaction returns (45 R116, R117); `none` is the spec's "nothing". -/
inductive Reply where
  | status (lenw : Nat) (word : BitVec (statusWidth lenw))
  | schedule (words : Option (List Word))
  | trace (records : Option (List TraceRecord))
  | regs (values : Option (WorkingRegs × Word × Word))
  | hash (words : Option (List Word))
  | digest (bytes : Option (List Byte))
  | block (bytes : Option (List Byte))
deriving DecidableEq, Repr

/-- What the host does next: it lets the sequencer perform one micro-operation with no start presented, or it performs
one transaction (45 R113). The model's own form of the outside world, log entry 2. -/
inductive HostMove where
  | quiet
  | act (t : Transaction)
deriving DecidableEq, Repr

/-- Why the machine stops with a fault: for no reason. The one exception of the spec, InvalidInput, is TAKEN (60 R131)
and the machine goes on in phase ERROR; there is no access, alignment or arithmetic fault (60 R125). No constructor,
so no step ends in a fault; log entry 11, safe. -/
inductive Fault where
deriving DecidableEq, Repr

/-- Why a step has no meaning. -/
inductive Refusal where
  /-- An instruction without a meaning yet, by its mnemonic: raised by `exec` only, and by no arm of it now. Safe. -/
  | notModelled (mnemonic : String)
  /-- A reserved SEQ value (30 R49: "its step function should *refuse* (give no next state)"), raised by `step` when
  SEQ does not decode and by EXP for an index below 16, which no SEQ value selects. Safe. -/
  | reserved (why : Reserved)
deriving DecidableEq, Repr

/-- One instance of the block, and its host. -/
structure State where
  /-- BLK (10 R11). -/
  blk : Memory
  /-- LEN, an unsigned integer of `config.lenw` bits: below 2^LENW (10 R12; kept by every step, `State.lenInv`). -/
  len : Nat
  /-- W (10 R13). -/
  w : Vector (Option Word) 64
  /-- a (10 R14). -/
  a : Option Word
  /-- b (10 R14). -/
  b : Option Word
  /-- c (10 R14). -/
  c : Option Word
  /-- d (10 R14). -/
  d : Option Word
  /-- e (10 R14). -/
  e : Option Word
  /-- f (10 R14). -/
  f : Option Word
  /-- g (10 R14). -/
  g : Option Word
  /-- h (10 R14). -/
  h : Option Word
  /-- t1 (10 R15). -/
  t1 : Option Word
  /-- t2 (10 R15). -/
  t2 : Option Word
  /-- H (10 R16). -/
  hash : Vector (Option Word) 8
  /-- TRACE (10 R17). -/
  trace : Vector (Option TraceRecord) 64
  /-- SEQ (10 R19). -/
  seq : BitVec 10
  /-- VALID (10 R20). -/
  valid : Bool
  /-- ERR (10 R20). -/
  err : Bool
  /-- ECODE (10 R20). -/
  ecode : BitVec 2
  /-- The `start` input of the micro-operation that runs now (44 R103); the model's own field, log entry 3. -/
  start : Bool
  /-- What the host does from here on, first move first; the model's own field, log entry 2. -/
  pending : List HostMove
  /-- What the host's reads have returned so far, latest first; the model's own field, log entry 2. -/
  replies : List Reply
  /-- How often elements came to hold no value: the argument of the free values of Config, and of nothing else; the
  model's own field, log entry 4. -/
  epoch : Nat
  /-- The configuration of this instance: LENW and the ROMs K and IV (10 R10, R21, R22). No step writes it; log
  entry 18. -/
  config : Config
deriving DecidableEq, Repr

/-- An instance of a configuration right after reset (10 R26, 70 R140): SEQ = 0x000, VALID, ERR, ECODE and LEN 0, every
data store holds no value. The values of the four fields of the model's own are DESIGN CHOICE (log entries 2, 3, 4). -/
def State.resetOf (c : Config) : State where
  blk := []
  len := 0
  w := Vector.replicate 64 none
  a := none
  b := none
  c := none
  d := none
  e := none
  f := none
  g := none
  h := none
  t1 := none
  t2 := none
  hash := Vector.replicate 8 none
  trace := Vector.replicate 64 none
  seq := 0
  valid := false
  err := false
  ecode := 0
  start := false
  pending := []
  replies := []
  epoch := 0
  config := c

/-- The machine right after reset, its configuration the spec's defaults (00 R4; log entries 6, 7). -/
def State.reset : State := State.resetOf {}

end Sys2Proof.Machine
end

