-- ==== Sys2Proof/Machine/Flags.lean ====
section
/-! DEFINITION. The status flags VALID, ERR, ECODE (spec/10_state.md R20), the derived BUSY, and the status word
(spec/30_encoding.md R51). No arithmetic writes a flag (R20). -/

namespace Sys2Proof.Machine

/-- The ECODE of "no error" (30 R51). -/
def ecodeNone : BitVec 2 := 0

/-- The ECODE of InvalidInput (30 R51, 60 R127). -/
def ecodeInvalidInput : BitVec 2 := 1

/-- VALID, ERR and ECODE cleared together (44 R103). -/
def State.clearStatus (s : State) : State := { s with valid := false, err := false, ecode := ecodeNone }

/-- ERR and ECODE set to InvalidInput; VALID untouched (60 R131). -/
def State.setInvalidInput (s : State) : State := { s with err := true, ecode := ecodeInvalidInput }

/-- VALID set (43 R95). -/
def State.setValid (s : State) : State := { s with valid := true }

/-- BUSY: PHASE is one of CHECK, LOAD, EXPAND, INIT, ROUNDS, FINAL (10 R20). In the reserved phases 9 to 15, of which
the spec says nothing, it is 0 as R20's list of phases has it: DESIGN CHOICE, log entry 10. -/
def State.busy (s : State) : Bool :=
  match Phase.ofCode (seqPhase s.seq) with
  | some .check => true
  | some .load => true
  | some .expand => true
  | some .init => true
  | some .rounds => true
  | some .final => true
  | some .idle => false
  | some .done => false
  | some .error => false
  | none => false

/-- The status word: from the most significant end SEQ, VALID, ERR, ECODE, LEN in LENW bits (30 R51). -/
def State.statusWord (s : State) : BitVec (statusWidth s.config.lenw) :=
  s.seq ++ BitVec.ofBool s.valid ++ BitVec.ofBool s.err ++ s.ecode ++ BitVec.ofNat s.config.lenw s.len

end Sys2Proof.Machine
end

