-- ==== Sys2Proof/Machine/Operands.lean ====
section
/-! DEFINITION. The operand forms of the micro-operations (spec/30_encoding.md R47): IDX used directly, and the fixed
offsets from it, computed in the integers. -/

namespace Sys2Proof.Machine

/-- The word index j of LDW j (30 R47). -/
def loadIndex (j : Fin 16) : Fin 64 := ⟨j.val, by omega⟩

/-- The byte offset 4j + m of LDW j (30 R47, 20 R35: always inside the block). -/
def byteIndex (j : Fin 16) (m : Fin 4) : Fin 64 := ⟨4 * j.val + m.val, by omega⟩

/-- The word index i - n of EXP i (30 R47), for n of at most i. -/
def backIndex (i : Fin 64) (n : Nat) : Fin 64 := ⟨i.val - n, by omega⟩

end Sys2Proof.Machine
end

