-- ==== Sys2Proof/Machine/Ops.lean ====
section
/-! DEFINITION. The named operations over the stores and registers that every meaning is written in: the byte store
BLK, reads of elements (a read of an element that holds no value gives a free value, log entry 4), writes, and the two
shared events, taking InvalidInput (spec/60_exceptions.md R131) and accepting a start (spec/44_sequencer_control.md
R103), which is also the only way out of ERROR short of reset (60 R132: there is no return operation). -/

namespace Sys2Proof.Machine

/-- The byte at an address, none where the store holds no value. -/
def Memory.read : Memory → Nat → Option Byte
  | [], _ => none
  | (k, b) :: m, a => if k = a then some b else Memory.read m a

/-- Write one byte, keeping the addresses strictly rising. -/
def Memory.write : Memory → Nat → Byte → Memory
  | [], a, v => [(a, v)]
  | (k, b) :: m, a, v =>
    if a < k then (a, v) :: (k, b) :: m
    else if a = k then (a, v) :: m
    else (k, b) :: Memory.write m a v

/-- Write bytes one after another at rising addresses. -/
def Memory.writeBytes : Memory → Nat → List Byte → Memory
  | m, _, [] => m
  | m, a, v :: vs => Memory.writeBytes (m.write a v) (a + 1) vs

/-- The canonical form of BLK: addresses strictly rising, all of them in 0..63 (20 R30). Every listed byte is a value,
so none equals what an unlisted address holds. -/
abbrev Memory.wf (m : Memory) : Prop := (m.map (·.1)).Pairwise (· < ·) ∧ ∀ c ∈ m, c.1 < 64

/-- BLK[j] as a micro-operation reads it. -/
def State.readBlk (s : State) (j : Fin 64) : Byte := (s.blk.read j.val).getD (Config.freeByte s.epoch j)

/-- W[i] as a micro-operation reads it. -/
def State.readW (s : State) (i : Fin 64) : Word := s.w[i].getD (Config.freeWord s.epoch (.w i))

/-- H[k] as a micro-operation reads it. -/
def State.readH (s : State) (k : Fin 8) : Word := s.hash[k].getD (Config.freeWord s.epoch (.hash k))

/-- a..h as a micro-operation reads them, all eight together. -/
def State.readRegs (s : State) : WorkingRegs where
  a := s.a.getD (Config.freeWord s.epoch .a)
  b := s.b.getD (Config.freeWord s.epoch .b)
  c := s.c.getD (Config.freeWord s.epoch .c)
  d := s.d.getD (Config.freeWord s.epoch .d)
  e := s.e.getD (Config.freeWord s.epoch .e)
  f := s.f.getD (Config.freeWord s.epoch .f)
  g := s.g.getD (Config.freeWord s.epoch .g)
  h := s.h.getD (Config.freeWord s.epoch .h)

/-- H[0..7] as a micro-operation reads them, all eight together. -/
def State.readHash (s : State) : Vector Word 8 :=
  #v[s.readH 0, s.readH 1, s.readH 2, s.readH 3, s.readH 4, s.readH 5, s.readH 6, s.readH 7]

/-- SEQ <- (P, n) (00 R6). -/
def State.goto (s : State) (p : Phase) (n : Nat) : State := { s with seq := seqOf p (BitVec.ofNat 6 n) }

/-- W[i] <- v (00 R6). -/
def State.setW (s : State) (i : Fin 64) (v : Word) : State := { s with w := s.w.set i.val (some v) }

/-- (a, ..., h) <- the eight values, simultaneously (00 R6). -/
def State.setRegs (s : State) (r : WorkingRegs) : State :=
  { s with a := some r.a, b := some r.b, c := some r.c, d := some r.d,
           e := some r.e, f := some r.f, g := some r.g, h := some r.h }

/-- (t1, t2) <- (x, y) (00 R6). -/
def State.setTemps (s : State) (x y : Word) : State := { s with t1 := some x, t2 := some y }

/-- (H[0], ..., H[7]) <- the eight values, simultaneously (00 R6). -/
def State.setHash (s : State) (v : Vector Word 8) : State :=
  { s with hash := #v[some v[0], some v[1], some v[2], some v[3], some v[4], some v[5], some v[6], some v[7]] }

/-- TRACE[i] <- r (00 R6). -/
def State.setTrace (s : State) (i : Fin 64) (r : TraceRecord) : State := { s with trace := s.trace.set i.val (some r) }

/-- BLK and LEN replaced (45 R114); BLK's unlisted bytes hold no value from here on. -/
def State.setBlock (s : State) (m : Memory) (n : Nat) : State :=
  { s with blk := m, len := n, epoch := s.epoch + 1 }

/-- W, TRACE, a..h, t1, t2 and H come to hold no value (44 R103, 10 R25). -/
def State.dropResults (s : State) : State :=
  { s with w := Vector.replicate 64 none, trace := Vector.replicate 64 none,
           a := none, b := none, c := none, d := none, e := none, f := none, g := none, h := none,
           t1 := none, t2 := none, hash := Vector.replicate 8 none, epoch := s.epoch + 1 }

/-- Taking the one exception, `raise InvalidInput(LEN)` (60 R131): ERR <- 1, ECODE <- 1, SEQ <- (ERROR, 0), and
nothing else: no state is saved, there is no handler and no vector. -/
def State.raiseInvalidInput (s : State) : State := s.setInvalidInput.goto .error 0

/-- `accept_start`, shared by WAIT, HLT and ERH (44 R103). -/
def State.acceptStart (s : State) : State := s.clearStatus.dropResults.goto .check 0

end Sys2Proof.Machine
end

