-- ==== Sys2Proof/Machine/Control.lean ====
section
/-! DEFINITION. The control micro-operations WAIT, HLT, ERH (spec/44_sequencer_control.md R103 to R105): each waits for
the host's start in its own phase. -/

namespace Sys2Proof.Machine

/-- Accept the start if one is presented, else stay in phase p (44 R103 to R105). -/
def awaitStart (p : Phase) (s : State) : State := if s.start then s.acceptStart else s.goto p 0

/-- WAIT (44 R103). -/
def execWait (s : State) : Host.Outcome State Fault Refusal := .next (awaitStart .idle s)

/-- HLT (44 R104). -/
def execHlt (s : State) : Host.Outcome State Fault Refusal := .next (awaitStart .done s)

/-- ERH (44 R105). -/
def execErh (s : State) : Host.Outcome State Fault Refusal := .next (awaitStart .error s)

end Sys2Proof.Machine
end

