-- ==== Sys2Proof/Machine/WordFunctions.lean ====
section
/-! DEFINITION. The pure functions every micro-operation is built from (spec/40_word_functions.md R60 to R72): total
on words, no flag, no error (R71). -/

namespace Sys2Proof.Machine

/-- `add32`: the sum mod 2^32, no carry kept (40 R60). -/
def add32 (x y : Word) : Word := x + y

/-- `rotr`: right rotation by the formula of 40 R62; outside 1..31, which the hardware never uses, by n mod 32
(93 U5, log entry 12). -/
def rotr (x : Word) (n : Nat) : Word := (x >>> (n % 32)) ||| (x <<< (32 - n % 32))

/-- `shr`: logical right shift (40 R63). -/
def shr (x : Word) (n : Nat) : Word := x >>> n

/-- `sigma0` (40 R65). -/
def sigma0 (x : Word) : Word := rotr x 7 ^^^ rotr x 18 ^^^ shr x 3

/-- `sigma1` (40 R66). -/
def sigma1 (x : Word) : Word := rotr x 17 ^^^ rotr x 19 ^^^ shr x 10

/-- `Sigma0` (40 R67). -/
def bigSigma0 (x : Word) : Word := rotr x 2 ^^^ rotr x 13 ^^^ rotr x 22

/-- `Sigma1` (40 R68). -/
def bigSigma1 (x : Word) : Word := rotr x 6 ^^^ rotr x 11 ^^^ rotr x 25

/-- `Ch` (40 R69). -/
def ch (x y z : Word) : Word := (x &&& y) ^^^ (~~~x &&& z)

/-- `Maj` (40 R70). -/
def maj (x y z : Word) : Word := (x &&& y) ^^^ (x &&& z) ^^^ (y &&& z)

/-- `be32`: four bytes as a word, the first the most significant (40 R72, 20 R31). -/
def be32 (b0 b1 b2 b3 : Byte) : Word := b0 ++ b1 ++ b2 ++ b3

/-- `bytes32`: a word as four bytes, the most significant first (40 R72, 20 R32). -/
def bytes32 (v : Word) : List Byte :=
  [v.extractLsb' 24 8, v.extractLsb' 16 8, v.extractLsb' 8 8, v.extractLsb' 0 8]

end Sys2Proof.Machine
end

