-- ==== Sys2Proof/Machine/Schedule.lean ====
section
/-! DEFINITION. The message-schedule expander (spec/41_schedule_expander.md): CHK, LDW, EXP, and the pure function
expand_schedule that the 65 micro-operations compute. -/

namespace Sys2Proof.Machine

/-- The recurrence of 41 R77 for word i, over any reading of the earlier words. -/
def scheduleWord (w : Fin 64 → Word) (i : Fin 64) : Word :=
  sigma1 (w (backIndex i 2)) + w (backIndex i 7) + sigma0 (w (backIndex i 15)) + w (backIndex i 16)

/-- The big-endian word of group j (41 R76), over any reading of the block's bytes. -/
def groupWord (byte : Fin 64 → Byte) (j : Fin 16) : Word :=
  be32 (byte (byteIndex j 0)) (byte (byteIndex j 1)) (byte (byteIndex j 2)) (byte (byteIndex j 3))

/-- CHK (41 R75): LEN = 64 initialises the hash state, any other length takes InvalidInput. -/
def execChk (s : State) : Host.Outcome State Fault Refusal :=
  if s.len = 64 then .next ((s.setHash s.config.iv).goto .load 0) else .next s.raiseInvalidInput

/-- LDW j (41 R76). -/
def execLdw (j : Fin 16) (s : State) : Host.Outcome State Fault Refusal :=
  let s' := s.setW (loadIndex j) (groupWord s.readBlk j)
  .next (if j.val < 15 then s'.goto .load (j.val + 1) else s'.goto .expand 16)

/-- EXP i (41 R77). An index below 16 is no micro-operation (30 R49) and is refused as the reserved SEQ value
(EXPAND, i). -/
def execExp (i : Fin 64) (s : State) : Host.Outcome State Fault Refusal :=
  if 16 ≤ i.val then
    let s' := s.setW i (scheduleWord s.readW i)
    .next (if i.val < 63 then s'.goto .expand (i.val + 1) else s'.goto .init 0)
  else .refused (.reserved (.index Phase.expand.code (BitVec.ofNat 6 i.val)))

/-- Words 0..n-1 of the schedule from the block's bytes, in ascending order (41 R78, the first loop); the words not
reached yet stay as they were. -/
def loadWords (block : Vector Byte 64) : Nat → Vector Word 64 → Vector Word 64
  | 0, w => w
  | n + 1, w =>
    let w' := loadWords block n w
    if h : n < 16 then w'.set n (groupWord (fun k => block[k]) ⟨n, h⟩) else w'

/-- Words 16..16+n-1 of the schedule by the recurrence, in ascending order (41 R78, the second loop). -/
def extendWords : Nat → Vector Word 64 → Vector Word 64
  | 0, w => w
  | n + 1, w =>
    let w' := extendWords n w
    if h : 16 + n < 64 then w'.set (16 + n) (scheduleWord (fun k => w'[k]) ⟨16 + n, h⟩) else w'

/-- The schedule of a block of 64 bytes (41 R78). Every one of the 64 words is assigned; the zeros the loops start
from are in no result (log entry 13). -/
def scheduleOf (block : Vector Byte 64) : Vector Word 64 :=
  extendWords 48 (loadWords block 16 (Vector.replicate 64 0))

/-- The one error of the document's operations (41 R78, 60 R125). -/
inductive InvalidInput where
  | notSixtyFourBytes (length : Nat)
deriving DecidableEq, Repr

/-- `expand_schedule(block)` (41 R78). -/
def expandSchedule (block : List Byte) : Except InvalidInput (Vector Word 64) :=
  if h : block.length = 64 then .ok (scheduleOf ⟨block.toArray, by simpa using h⟩)
  else .error (.notSixtyFourBytes block.length)

end Sys2Proof.Machine
end

