-- ==== Sys2Proof/Machine/Rounds.lean ====
section
/-! DEFINITION. The round engine (spec/42_round_engine.md): INI, RND, and the pure function run_rounds that the 65
micro-operations compute, parametric in the round constants and in `init` (spec/00_scope.md R8). -/

namespace Sys2Proof.Machine

/-- The working registers from eight words, a the first, h the last (42 R85). -/
def regsOf (v : Vector Word 8) : WorkingRegs where
  a := v[0]
  b := v[1]
  c := v[2]
  d := v[3]
  e := v[4]
  f := v[5]
  g := v[6]
  h := v[7]

/-- T1 of a round, from the registers before it (42 R86). -/
def roundT1 (r : WorkingRegs) (k w : Word) : Word := r.h + bigSigma1 r.e + ch r.e r.f r.g + k + w

/-- T2 of a round, from the registers before it (42 R86). -/
def roundT2 (r : WorkingRegs) : Word := bigSigma0 r.a + maj r.a r.b r.c

/-- The registers after a round with temporaries x = T1, y = T2 (42 R86): all eight assigned from the old ones. -/
def rotateRegs (r : WorkingRegs) (x y : Word) : WorkingRegs where
  a := add32 x y
  b := r.a
  c := r.b
  d := r.c
  e := add32 r.d x
  f := r.e
  g := r.f
  h := r.g

/-- The snapshot of round i: the index, W[i], the registers AFTER the rotation, the temporaries (42 R86, R87). -/
def snapshot (i : Fin 64) (w : Word) (r : WorkingRegs) (x y : Word) : TraceRecord where
  idx := BitVec.ofNat 32 i.val
  w := w
  a := r.a
  b := r.b
  c := r.c
  d := r.d
  e := r.e
  f := r.f
  g := r.g
  h := r.h
  t1 := x
  t2 := y

/-- A trace record as one value of 384 bits, slot 0 the most significant (30 R52). -/
def TraceRecord.bits (r : TraceRecord) : BitVec 384 :=
  r.idx ++ r.w ++ r.a ++ r.b ++ r.c ++ r.d ++ r.e ++ r.f ++ r.g ++ r.h ++ r.t1 ++ r.t2

/-- INI (42 R85). -/
def execIni (s : State) : Host.Outcome State Fault Refusal :=
  .next ((s.setRegs (regsOf s.readHash)).goto .rounds 0)

/-- RND i (42 R86). -/
def execRnd (i : Fin 64) (s : State) : Host.Outcome State Fault Refusal :=
  let w := s.readW i
  let x := roundT1 s.readRegs s.config.k[i] w
  let y := roundT2 s.readRegs
  let r := rotateRegs s.readRegs x y
  let s' := ((s.setRegs r).setTemps x y).setTrace i (snapshot i w r x y)
  .next (if i.val < 63 then s'.goto .rounds (i.val + 1) else s'.goto .final 0)

/-- The working registers before round n, that is after n rounds (42 R88). -/
def regsBefore (k w : Vector Word 64) (init : Vector Word 8) : Nat → WorkingRegs
  | 0 => regsOf init
  | n + 1 =>
    let r := regsBefore k w init n
    if h : n < 64 then rotateRegs r (roundT1 r k[n] w[n]) (roundT2 r) else r

/-- The record of round i (42 R88). -/
def recordOf (k w : Vector Word 64) (init : Vector Word 8) (i : Fin 64) : TraceRecord :=
  let r := regsBefore k w init i.val
  snapshot i w[i] (regsBefore k w init (i.val + 1)) (roundT1 r k[i] w[i]) (roundT2 r)

/-- `run_rounds(W, init)`, with the round constants as an argument (42 R88): the 64 records in round order and the
final registers. -/
def runRounds (k w : Vector Word 64) (init : Vector Word 8) : Vector TraceRecord 64 × WorkingRegs :=
  (Vector.ofFn (recordOf k w init), regsBefore k w init 64)

end Sys2Proof.Machine
end

