-- ==== Sys2Proof/Machine/Finalize.lean ====
section
/-! DEFINITION. The finalize adder (spec/43_finalize.md): FIN, the digest, and the pure functions finalize and
compress. -/

namespace Sys2Proof.Machine

/-- The eight output words: word k plus register k, a..h for k = 0..7 (43 R95, R97). -/
def addRegs (v : Vector Word 8) (r : WorkingRegs) : Vector Word 8 :=
  #v[add32 v[0] r.a, add32 v[1] r.b, add32 v[2] r.c, add32 v[3] r.d,
     add32 v[4] r.e, add32 v[5] r.f, add32 v[6] r.g, add32 v[7] r.h]

/-- FIN (43 R95). -/
def execFin (s : State) : Host.Outcome State Fault Refusal :=
  .next ((s.setHash (addRegs s.readHash s.readRegs)).setValid.goto .done 0)

/-- The digest bytes of eight words (43 R96, 20 R32). -/
def digestOf (v : Vector Word 8) : List Byte :=
  bytes32 v[0] ++ bytes32 v[1] ++ bytes32 v[2] ++ bytes32 v[3] ++
    bytes32 v[4] ++ bytes32 v[5] ++ bytes32 v[6] ++ bytes32 v[7]

/-- `finalize(init, a..h)` (43 R97). -/
def finalize (init : Vector Word 8) (r : WorkingRegs) : Vector Word 8 × List Byte :=
  (addRegs init r, digestOf (addRegs init r))

/-- The five results of `compress` (43 R98). -/
structure Compressed where
  schedule : Vector Word 64
  trace : Vector TraceRecord 64
  regs : WorkingRegs
  out : Vector Word 8
  digest : List Byte
deriving DecidableEq, Repr

/-- The rounds and the final addition on a schedule (43 R98, its last two lines). -/
def compressSchedule (k : Vector Word 64) (init : Vector Word 8) (w : Vector Word 64) : Compressed where
  schedule := w
  trace := (runRounds k w init).1
  regs := (runRounds k w init).2
  out := (finalize init (runRounds k w init).2).1
  digest := (finalize init (runRounds k w init).2).2

/-- `compress(block, init)`, with the round constants as an argument (43 R98). -/
def compress (k : Vector Word 64) (init : Vector Word 8) (block : List Byte) : Except InvalidInput Compressed :=
  match expandSchedule block with
  | .ok w => .ok (compressSchedule k init w)
  | .error e => .error e

end Sys2Proof.Machine
end

