-- ==== Sys2Proof/Machine/Dispatch.lean ====
section
/-! DEFINITION. The meaning of each micro-operation: one arm per constructor, one direct call each. -/

namespace Sys2Proof.Machine

def exec (i : Instr) (s : State) : Host.Outcome State Fault Refusal :=
  match i with
  | .wait => Sys2Proof.Machine.execWait s
  | .chk => Sys2Proof.Machine.execChk s
  | .ldw j => Sys2Proof.Machine.execLdw j s
  | .exp k => Sys2Proof.Machine.execExp k s
  | .ini => Sys2Proof.Machine.execIni s
  | .rnd k => Sys2Proof.Machine.execRnd k s
  | .fin => Sys2Proof.Machine.execFin s
  | .hlt => Sys2Proof.Machine.execHlt s
  | .erh => Sys2Proof.Machine.execErh s

end Sys2Proof.Machine
end

