-- ==== Sys2Proof/Machine/HostPort.lean ====
section
/-! DEFINITION. The host interface (spec/45_host_interface.md): the ten transactions, what each read returns, the
padding that is the host's duty (R119), and whose turn it is. A transaction is atomic and takes effect between two
micro-operations (R113); H_START makes the `start` input of the current micro-operation true (R115). -/

namespace Sys2Proof.Machine

/-- LEN of a presentation of n bytes, in a register of `lenw` bits: saturated, never wrapped (10 R12, 45 R114). -/
def lengthOf (lenw n : Nat) : Nat := min n (2 ^ lenw - 1)

/-- H_LOAD(bytes) (45 R114); no effect while BUSY = 1 (45 R120). -/
def hostLoad (bytes : List Byte) (s : State) : State :=
  if s.busy then s
  else s.setBlock (Memory.writeBytes [] 0 (bytes.take 64)) (lengthOf s.config.lenw bytes.length)

/-- H_RESET (45 R118, 70 R140): the reset state at any time, K and IV unaffected. The host's own side (its moves to
come, what it has read) is no part of the block and stays; the epoch advances, for the stores come to hold no value
(log entry 17). -/
def hostReset (s : State) : State :=
  { State.resetOf s.config with pending := s.pending, replies := s.replies, epoch := s.epoch + 1 }

/-- All values of a store, none unless every element holds one (00 R7: a host read of an element that holds no value
returns nothing). -/
def allValues {α : Type} : List (Option α) → Option (List α)
  | [] => some []
  | none :: _ => none
  | some x :: xs =>
    match allValues xs with
    | none => none
    | some ys => some (x :: ys)

/-- The VALID gate of the five result reads (45 R117). -/
def State.gated {α : Type} (s : State) (r : Option α) : Option α := if s.valid then r else none

/-- H_READ_W (45 R117). -/
def hostReadW (s : State) : Option (List Word) := s.gated (allValues s.w.toList)

/-- H_READ_TRACE (45 R117). -/
def hostReadTrace (s : State) : Option (List TraceRecord) := s.gated (allValues s.trace.toList)

/-- The values of a..h, t1, t2, none unless all ten hold one. -/
def State.tenRegs (s : State) : Option (WorkingRegs × Word × Word) :=
  match allValues [s.a, s.b, s.c, s.d, s.e, s.f, s.g, s.h, s.t1, s.t2] with
  | some [a, b, c, d, e, f, g, h, x, y] => some (⟨a, b, c, d, e, f, g, h⟩, x, y)
  | _ => none

/-- H_READ_REGS (45 R117). -/
def hostReadRegs (s : State) : Option (WorkingRegs × Word × Word) := s.gated s.tenRegs

/-- H_READ_HASH (45 R117). -/
def hostReadHash (s : State) : Option (List Word) := s.gated (allValues s.hash.toList)

/-- DIGEST as the host reads it: the byte view of H, a value exactly when VALID = 1 (10 R18, 45 R117). -/
def hostReadDigest (s : State) : Option (List Byte) :=
  match hostReadHash s with
  | some words => some (words.flatMap bytes32)
  | none => none

/-- H_READ_BLK: the 64 bytes when BUSY = 0 and LEN = 64, else nothing (45 R117). -/
def hostReadBlk (s : State) : Option (List Byte) :=
  if s.busy = false ∧ s.len = 64 then allValues ((List.range 64).map s.blk.read) else none

/-- A read's answer handed to the host; the block does not change (45 R116, R117). -/
def State.reply (s : State) (r : Reply) : State := { s with replies := r :: s.replies }

/-- One transaction (45 R113). H_START only presents the start to the micro-operation that runs now. -/
def transact (t : Transaction) (s : State) : State :=
  match t with
  | .load bytes => hostLoad bytes s
  | .start => { s with start := true }
  | .readStatus => s.reply (.status s.config.lenw s.statusWord)
  | .readW => s.reply (.schedule (hostReadW s))
  | .readTrace => s.reply (.trace (hostReadTrace s))
  | .readRegs => s.reply (.regs (hostReadRegs s))
  | .readHash => s.reply (.hash (hostReadHash s))
  | .readDigest => s.reply (.digest (hostReadDigest s))
  | .readBlk => s.reply (.block (hostReadBlk s))
  | .reset => hostReset s

/-- Who moves in a step: the host, with its transaction done, or the sequencer, from the state the micro-operation
sees. -/
inductive Turn where
  | host (s : State)
  | sequencer (s : State)
deriving DecidableEq, Repr

/-- Whose turn it is: the host's next move decides. H_START and the micro-operation it is presented to are ONE step
(45 R115, 95 P1 step 0); every other transaction is a step of its own, between two micro-operations; with no move to
come the sequencer runs on, its `start` input as it stands (log entries 2 and 3). DESIGN CHOICE, log entry 10: a
transaction has its turn on a reserved SEQ value too (45 R116, R118 "at any time" against 30 R49 "give no next state"),
only the sequencer's turn is refused there. -/
def turnOf (s : State) : Turn :=
  match s.pending with
  | [] => .sequencer s
  | .quiet :: rest => .sequencer { s with pending := rest, start := false }
  | .act .start :: rest => .sequencer (transact .start { s with pending := rest })
  | .act t :: rest => .host (transact t { s with pending := rest })

/-- After a micro-operation its `start` input is over: a start it did not accept is not remembered (45 R115, R120). -/
def dropStart (o : Host.Outcome State Fault Refusal) : Host.Outcome State Fault Refusal :=
  match o with
  | .next s => .next { s with start := false }
  | .fault r => .fault r
  | .refused r => .refused r

/-- The block the host owes for a message of at most 55 bytes: the message, 0x80, zeros, the bit length in 8
big-endian bytes (45 R119); none for a longer message. The hardware does not check it (20 R33). -/
def padMessage (m : List Byte) : Option (List Byte) :=
  if m.length ≤ 55 then
    some (m ++ [0x80] ++ List.replicate (55 - m.length) 0 ++
      bytes32 (BitVec.ofNat 32 (8 * m.length / 2 ^ 32)) ++ bytes32 (BitVec.ofNat 32 (8 * m.length)))
  else none

end Sys2Proof.Machine
end

