-- ==== Sys2Proof/Machine/Step.lean ====
section
/-! DEFINITION. One step of the machine: a transaction of the host, or the one micro-operation that SEQ selects
(spec/30_encoding.md R45, R48, R49; spec/45_host_interface.md R113). -/

namespace Sys2Proof.Machine

/-- The micro-operation SEQ selects, and after it the end of its `start` input; a reserved SEQ value is refused
(30 R49). -/
def runSequencer (s : State) : Host.Outcome State Fault Refusal :=
  match decode s.seq with
  | .ok i => dropStart (exec i s)
  | .error why => .refused (.reserved why)

/-- One step. -/
def step (s : State) : Host.Outcome State Fault Refusal :=
  match turnOf s with
  | .host s' => .next s'
  | .sequencer s' => runSequencer s'

/-- `s` with the given word where the next micro-operation is selected from: SEQ itself, for there is no instruction
memory (30 R45, 20 R43). The host's moves to come are dropped, so that the very next step is the sequencer's. -/
def State.withFetchWord (s : State) (nbits w : Nat) : State :=
  { s with seq := BitVec.ofNat 10 (w % 2 ^ nbits), pending := [] }

end Sys2Proof.Machine
end

