-- ==== Sys2Proof/Machine/Platform.lean ====
section
/-! DEFINITION. A platform of NINST instances (spec/00_scope.md R4, spec/60_exceptions.md R137, spec/20_memory.md R44):
each has all its state to itself, K and IV are read-only in each one's configuration, and nothing is shared. -/

namespace Sys2Proof.Machine

/-- The instances of a platform, each with its own host. -/
abbrev Platform := List State

/-- A platform of `n` instances of one configuration, every one in its reset state. -/
def Platform.reset (n : Nat := Config.NINST) (c : Config := {}) : Platform := List.replicate n (State.resetOf c)

/-- One step of instance k: the instances may step in any interleaving (20 R44), so which one steps is the caller's
choice. -/
def Platform.step (p : Platform) (k : Fin p.length) : Host.Outcome Platform Fault Refusal :=
  match Machine.step p[k] with
  | .next s => .next (p.set k.val s)
  | .fault r => .fault r
  | .refused r => .refused r

end Sys2Proof.Machine
end

