-- ==== Sys2Proof/Safety.lean ====
section
/-! DEFINITION. What counts as a safe run (spec/60_exceptions.md R133), and the invariant that every reachable state
meets: what each store holds in each phase (spec/44_sequencer_control.md R106, spec/70_reset_and_hazards.md R149). -/

namespace Sys2Proof.Machine

/-- The successful end of an invocation: PHASE = DONE (60 R133, 45 R116). -/
abbrev State.succeeded (s : State) : Prop := s.seq = encode .hlt

/-- The fault state of an invocation: PHASE = ERROR (60 R133). -/
abbrev State.failed (s : State) : Prop := s.seq = encode .erh

/-- W, TRACE, a..h, t1, t2 and H hold no value (10 R25, R26; 44 R105). -/
abbrev State.noResults (s : State) : Prop :=
  s.w = Vector.replicate 64 none ∧ s.trace = Vector.replicate 64 none ∧ s.hash = Vector.replicate 8 none ∧
    s.a = none ∧ s.b = none ∧ s.c = none ∧ s.d = none ∧ s.e = none ∧ s.f = none ∧ s.g = none ∧ s.h = none ∧
    s.t1 = none ∧ s.t2 = none

/-- BLK and LEN are the same, BLK byte by byte. -/
abbrev State.sameBlock (s t : State) : Prop := t.len = s.len ∧ ∀ a, t.blk.read a = s.blk.read a

/-- a..h are the same. -/
abbrev State.sameRegs (s t : State) : Prop :=
  t.a = s.a ∧ t.b = s.b ∧ t.c = s.c ∧ t.d = s.d ∧ t.e = s.e ∧ t.f = s.f ∧ t.g = s.g ∧ t.h = s.h

/-- t1 and t2 are the same. -/
abbrev State.sameTemps (s t : State) : Prop := t.t1 = s.t1 ∧ t.t2 = s.t2

/-- VALID, ERR and ECODE are the same. -/
abbrev State.sameStatus (s t : State) : Prop := t.valid = s.valid ∧ t.err = s.err ∧ t.ecode = s.ecode

/-- What no micro-operation writes is the same: the host's side (the model's own fields) and the configuration. -/
abbrev State.sameOutside (s t : State) : Prop :=
  t.start = s.start ∧ t.pending = s.pending ∧ t.replies = s.replies ∧ t.config = s.config

/-- Every result store (W, TRACE, a..h, t1, t2, H) is the same. -/
abbrev State.sameResults (s t : State) : Prop :=
  t.w = s.w ∧ t.trace = s.trace ∧ t.hash = s.hash ∧ s.sameRegs t ∧ s.sameTemps t

/-- The block buffer holds exactly this block, and LEN says so. -/
abbrev State.holdsBlock (s : State) (block : Vector Byte 64) : Prop :=
  s.len = 64 ∧ ∀ j : Fin 64, s.blk.read j.val = some block[j]

/-- H holds these eight words. -/
abbrev State.holdsHash (s : State) (v : Vector Word 8) : Prop := ∀ k : Fin 8, s.hash[k] = some v[k]

/-- a..h hold these eight words. -/
abbrev State.holdsRegs (s : State) (r : WorkingRegs) : Prop :=
  s.a = some r.a ∧ s.b = some r.b ∧ s.c = some r.c ∧ s.d = some r.d ∧
    s.e = some r.e ∧ s.f = some r.f ∧ s.g = some r.g ∧ s.h = some r.h

/-- Words 0..n-1 of the schedule hold these words, the later ones no value. -/
abbrev State.holdsWords (s : State) (n : Nat) (w : Vector Word 64) : Prop :=
  ∀ k : Fin 64, s.w[k] = if k.val < n then some w[k] else none

/-- Records 0..n-1 of the trace are those of the rounds on w from IV with K, the later ones hold no value; t1 and t2 are
those of the last round done, or hold no value before round 0 (10 R15). -/
abbrev State.holdsTrace (s : State) (n : Nat) (w : Vector Word 64) : Prop :=
  (∀ k : Fin 64, s.trace[k] = if k.val < n then some (recordOf s.config.k w s.config.iv k) else none) ∧
    s.t1 = (if n = 0 then none else some (roundT1 (regsBefore s.config.k w s.config.iv (n - 1))
      s.config.k[(n - 1) % 64] w[(n - 1) % 64])) ∧
    s.t2 = (if n = 0 then none else some (roundT2 (regsBefore s.config.k w s.config.iv (n - 1))))

/-- Expand has written words 0..n-1 of the block's schedule and nothing else since CHK. -/
abbrev State.expanding (s : State) (n : Nat) : Prop :=
  ∃ block, s.holdsBlock block ∧ s.holdsHash s.config.iv ∧ s.holdsWords n (scheduleOf block) ∧
    s.holdsTrace 0 (scheduleOf block) ∧
    s.a = none ∧ s.b = none ∧ s.c = none ∧ s.d = none ∧ s.e = none ∧ s.f = none ∧ s.g = none ∧ s.h = none

/-- The schedule is complete and n rounds are done. -/
abbrev State.rounding (s : State) (n : Nat) : Prop :=
  ∃ block, s.holdsBlock block ∧ s.holdsHash s.config.iv ∧ s.holdsWords 64 (scheduleOf block) ∧
    s.holdsRegs (regsBefore s.config.k (scheduleOf block) s.config.iv n) ∧ s.holdsTrace n (scheduleOf block)

/-- Every result store holds what `compress` gives for this block and IV (43 R98). -/
abbrev State.holdsResults (s : State) (block : Vector Byte 64) : Prop :=
  let r := compressSchedule s.config.k s.config.iv (scheduleOf block)
  s.holdsWords 64 r.schedule ∧ (∀ k : Fin 64, s.trace[k] = some r.trace[k]) ∧ s.holdsRegs r.regs ∧
    s.t1 = some r.trace[63].t1 ∧ s.t2 = some r.trace[63].t2 ∧ s.holdsHash r.out

/-- What the stores hold, phase by phase. SEQ is one of the 134 values that decode. -/
def State.dataInv (s : State) : Prop :=
  match decode s.seq with
  | .ok .wait => s.noResults
  | .ok .chk => s.noResults
  | .ok (.ldw j) => s.expanding j.val
  | .ok (.exp i) => s.expanding i.val
  | .ok .ini => s.expanding 64
  | .ok (.rnd i) => s.rounding i.val
  | .ok .fin => s.rounding 64
  | .ok .hlt => ∃ block, s.holdsResults block
  | .ok .erh => s.noResults
  | .error _ => False

/-- VALID = 1 exactly in DONE, ERR = 1 exactly in ERROR, ECODE the error's code (10 R20, 30 R51). -/
abbrev State.statusInv (s : State) : Prop :=
  (s.valid = true ↔ s.succeeded) ∧ (s.err = true ↔ s.failed) ∧
    s.ecode = if s.err then ecodeInvalidInput else ecodeNone

/-- BLK is in canonical form and holds a value exactly at the offsets below LEN (10 R11, 45 R114). -/
abbrev State.blockInv (s : State) : Prop :=
  s.blk.wf ∧ ∀ j : Fin 64, (s.blk.read j.val).isSome ↔ j.val < s.len

/-- LENW is legal and LEN fits in it (00 R4, 10 R12). -/
abbrev State.lenInv (s : State) : Prop := s.config.legal ∧ s.len < 2 ^ s.config.lenw

/-- The invariant of the machine. -/
def State.Inv (s : State) : Prop := s.statusInv ∧ s.lenInv ∧ s.blockInv ∧ s.dataInv

end Sys2Proof.Machine
end

