-- ==== Sys2Proof/Certificates/Slice0/Obligations.lean ====
section
/-! DEFINITION. The statements for the provers, each from the numbered rules of spec/. Every operand form of every
micro-operation is inside its statement; a value that the spec leaves open (what an element without value shows) is in
no statement. -/

namespace Sys2Proof.Machine

/-- The next-SEQ table, in the numerals of spec/44_sequencer_control.md R106, for the 134 SEQ values of its rows. -/
def tableNextSeq (q : Nat) (start : Bool) (len : Nat) : Nat :=
  if q = 0x000 then (if start then 0x040 else 0x000)
  else if q = 0x040 then (if len = 64 then 0x080 else 0x200)
  else if q ≤ 0x08E then q + 1
  else if q = 0x08F then 0x0D0
  else if q ≤ 0x0FE then q + 1
  else if q = 0x0FF then 0x100
  else if q = 0x100 then 0x140
  else if q ≤ 0x17E then q + 1
  else if q = 0x17F then 0x180
  else if q = 0x180 then 0x1C0
  else if q = 0x1C0 then (if start then 0x040 else 0x1C0)
  else (if start then 0x040 else 0x200)

/-- Every element of the state that the micro-operation reads holds a value: the read sets of
spec/70_reset_and_hazards.md R149. -/
def readsHoldValues (i : Instr) (s : State) : Prop :=
  match i with
  | .wait => True
  | .chk => True
  | .ldw j => ∀ m : Fin 4, (s.blk.read (4 * j.val + m.val)).isSome
  | .exp i => ∀ p : Fin 64, (p.val + 2 = i.val ∨ p.val + 7 = i.val ∨ p.val + 15 = i.val ∨ p.val + 16 = i.val) →
      s.w[p].isSome
  | .ini => ∀ k : Fin 8, s.hash[k].isSome
  | .rnd i => s.w[i].isSome ∧ ∃ r, s.holdsRegs r
  | .fin => (∀ k : Fin 8, s.hash[k].isSome) ∧ ∃ r, s.holdsRegs r
  | .hlt => True
  | .erh => True

/-- The three micro-operations that wait for the host. -/
def waits (i : Instr) : Prop := i = .wait ∨ i = .hlt ∨ i = .erh

/-- A start is presented at this step and `rest` is what the host does after it: its next move is H_START (45 R115), or
the start input already stands in the state and no move is to come. -/
def State.presents (s : State) (rest : List HostMove) : Prop :=
  s.pending = .act .start :: rest ∨ (s.start = true ∧ s.pending = [] ∧ rest = [])

/-- The move is a step of the host's own: every transaction but H_START (log entry 2). -/
def HostMove.isTransaction : HostMove → Bool
  | .quiet => false
  | .act .start => false
  | .act _ => true

/-- From `s`, which presents a start, `t` is reached after `n` steps: the accepting one, `ops` micro-operations, and the
host's transactions that fell between them; the host's further moves are still to come. -/
def runsTo (s : State) (rest : List HostMove) (ops n : Nat) (t : State) : Prop :=
  core.run n s = .next t ∧ n = 1 + ops + (rest.take (n - 1)).countP HostMove.isTransaction ∧
    t.pending = rest.drop (n - 1)

end Sys2Proof.Machine

open Sys2Proof Sys2Proof.Machine

/-! ### Encoding (spec/30_encoding.md) -/

/-- Decoding the word of any well-formed micro-operation gives it back, every operand at every value (30 R48, R55). -/
def Obligations.DecodeOfEncode : Prop := ∀ i : Instr, WellFormed i → decode (encode i) = .ok i

/-- A SEQ value that decodes is the word of the micro-operation it decodes to, which is well-formed (30 R48, R55). -/
def Obligations.EncodeOfDecode : Prop := ∀ (q : BitVec 10) (i : Instr), decode q = .ok i → encode i = q ∧ WellFormed i

/-- 30 R48: SEQ selects a row exactly when SEQ and mask = match, under the row's further condition, with the operand
the low bits of SEQ. -/
def Obligations.SeqSelectsRowByMaskAndMatch : Prop :=
  ∀ (q : BitVec 10) (i : Instr), decode q = .ok i ↔
    q &&& rowMask i = rowMatch i ∧
      match i with
      | .wait => True
      | .chk => True
      | .ldw j => j.val = q.toNat % 16
      | .exp n => n.val = q.toNat % 64 ∧ 16 ≤ n.val
      | .ini => True
      | .rnd n => n.val = q.toNat % 64
      | .fin => True
      | .hlt => True
      | .erh => True

/-- 30 R49: exactly the four classes of SEQ values are reserved. -/
def Obligations.ReservedSeqValuesAreTheFourClasses : Prop :=
  ∀ q : BitVec 10, (∃ why, decode q = .error why) ↔
    9 ≤ q.toNat / 64 ∨
    (q.toNat / 64 ∈ [0, 1, 4, 6, 7, 8] ∧ q.toNat % 64 ≠ 0) ∨
    (q.toNat / 64 = 2 ∧ 16 ≤ q.toNat % 64) ∨
    (q.toNat / 64 = 3 ∧ q.toNat % 64 < 16)

/-- A few words of 30 R48, written out bit by bit, decode to what they stand for. -/
def Obligations.SpecWordsDecode : Prop :=
  decode 0b0000000000 = .ok .wait ∧ decode 0b0001000000 = .ok .chk ∧ decode 0b0010000101 = .ok (.ldw 5) ∧
    decode 0b0011010000 = .ok (.exp 16) ∧ decode 0b0100000000 = .ok .ini ∧ decode 0b0101100010 = .ok (.rnd 34) ∧
    decode 0b0110000000 = .ok .fin ∧ decode 0b0111000000 = .ok .hlt ∧ decode 0b1000000000 = .ok .erh

/-- 30 R49, 93 U1: a step of the sequencer on a reserved SEQ value has no next state: it is refused, by name, whether
the host makes no move, a quiet one, or presents a start. (Any other transaction has its own step there: the model's
choice, log entry 10.) -/
def Obligations.ReservedSeqIsRefused : Prop :=
  ∀ (s : State) (why : Reserved), decode s.seq = .error why →
    (s.pending = [] ∨ (∃ rest, s.pending = .quiet :: rest) ∨ ∃ rest, s.pending = .act .start :: rest) →
    step s = .refused (.reserved why)

/-! ### Word functions (spec/40_word_functions.md) -/

/-- 40 R60: add32 is the integer sum mod 2^32; commutative and associative. -/
def Obligations.AddWrapsModulo : Prop :=
  ∀ x y z : Word, (add32 x y).toNat = (x.toNat + y.toNat) % 2 ^ 32 ∧ add32 x y = add32 y x ∧
    add32 (add32 x y) z = add32 x (add32 y z)

/-- 40 R62: bit k of rotr(x, n) is bit (k + n) mod 32 of x, for n in 1..31. -/
def Obligations.RotrMovesBits : Prop :=
  ∀ (x : Word) (n k : Nat), 1 ≤ n → n ≤ 31 → k < 32 → (rotr x n).getLsbD k = x.getLsbD ((k + n) % 32)

/-- 40 R63: shr(x, n) is floor(x / 2^n), for the two amounts the hardware has. -/
def Obligations.ShrIsFloorDivision : Prop :=
  ∀ (x : Word) (n : Nat), n = 3 ∨ n = 10 → (shr x n).toNat = x.toNat / 2 ^ n

/-- 40 R65 to R68: the four sigma functions bit by bit: the exclusive or of three bits of the argument, where a shift
brings in 0 (a bit at 32 or above is 0). -/
def Obligations.SigmaFunctionsBitByBit : Prop :=
  ∀ (x : Word) (k : Nat), k < 32 →
    (sigma0 x).getLsbD k = ((x.getLsbD ((k + 7) % 32) ^^ x.getLsbD ((k + 18) % 32)) ^^ x.getLsbD (k + 3)) ∧
    (sigma1 x).getLsbD k = ((x.getLsbD ((k + 17) % 32) ^^ x.getLsbD ((k + 19) % 32)) ^^ x.getLsbD (k + 10)) ∧
    (bigSigma0 x).getLsbD k =
      ((x.getLsbD ((k + 2) % 32) ^^ x.getLsbD ((k + 13) % 32)) ^^ x.getLsbD ((k + 22) % 32)) ∧
    (bigSigma1 x).getLsbD k =
      ((x.getLsbD ((k + 6) % 32) ^^ x.getLsbD ((k + 11) % 32)) ^^ x.getLsbD ((k + 25) % 32))

/-- 40 R69, R70: Ch selects by the bit of its first argument, Maj is the majority of the three bits. -/
def Obligations.ChSelectsMajVotes : Prop :=
  ∀ (x y z : Word) (k : Nat), k < 32 →
    (ch x y z).getLsbD k = (if x.getLsbD k then y.getLsbD k else z.getLsbD k) ∧
    ((maj x y z).getLsbD k = true ↔ 2 ≤ (x.getLsbD k).toNat + (y.getLsbD k).toNat + (z.getLsbD k).toNat)

/-- 40 R72: be32 weighs its bytes by 2^24, 2^16, 2^8, 1; bytes32 takes the word apart, the most significant byte first;
each undoes the other. -/
def Obligations.PackingIsBigEndian : Prop :=
  (∀ b0 b1 b2 b3 : Byte,
    (be32 b0 b1 b2 b3).toNat = b0.toNat * 2 ^ 24 + b1.toNat * 2 ^ 16 + b2.toNat * 2 ^ 8 + b3.toNat ∧
      bytes32 (be32 b0 b1 b2 b3) = [b0, b1, b2, b3]) ∧
  ∀ v : Word, ∃ b0 b1 b2 b3, bytes32 v = [b0, b1, b2, b3] ∧ be32 b0 b1 b2 b3 = v ∧
    b0.toNat = v.toNat / 2 ^ 24 ∧ b1.toNat = v.toNat / 2 ^ 16 % 256 ∧ b2.toNat = v.toNat / 2 ^ 8 % 256 ∧
    b3.toNat = v.toNat % 256

/-! ### The micro-operations: effect, next SEQ, completion and frame -/

/-- 41 R75: CHK completes with H = IV and SEQ = (LOAD, 0) when LEN = 64 and changes nothing else; for any other LEN it
raises InvalidInput: ERR, ECODE and SEQ change and nothing else (60 R131). -/
def Obligations.ChkChecksLengthAndLoadsIV : Prop :=
  encode .chk = 0x040 ∧ ∀ s : State,
    (s.len = 64 → ∃ t, exec .chk s = .next t ∧ t.holdsHash s.config.iv ∧ t.seq = 0x080 ∧
      s.sameBlock t ∧ t.w = s.w ∧ t.trace = s.trace ∧ s.sameRegs t ∧ s.sameTemps t ∧ s.sameStatus t ∧ s.sameOutside t) ∧
    (s.len ≠ 64 → exec .chk s = .next { s with err := true, ecode := 1, seq := 0x200 })

/-- 41 R76: LDW j completes; W[j] is the big-endian word of the four bytes at 4j, SEQ goes on, nothing else changes. -/
def Obligations.LdwLoadsBigEndianWord : Prop :=
  ∀ (j : Fin 16) (s : State), (encode (.ldw j)).toNat = 0x080 + j.val ∧ ∃ t, exec (.ldw j) s = .next t ∧
    t.seq.toNat = (if j.val < 15 then 0x081 + j.val else 0x0D0) ∧
    (∀ b0 b1 b2 b3 : Byte, s.blk.read (4 * j.val) = some b0 → s.blk.read (4 * j.val + 1) = some b1 →
      s.blk.read (4 * j.val + 2) = some b2 → s.blk.read (4 * j.val + 3) = some b3 →
      ∃ v, t.w[j.val]? = some (some v) ∧
        v.toNat = b0.toNat * 2 ^ 24 + b1.toNat * 2 ^ 16 + b2.toNat * 2 ^ 8 + b3.toNat) ∧
    (∀ k : Fin 64, k.val ≠ j.val → t.w[k] = s.w[k]) ∧
    s.sameBlock t ∧ t.trace = s.trace ∧ t.hash = s.hash ∧ s.sameRegs t ∧ s.sameTemps t ∧ s.sameStatus t ∧ s.sameOutside t

/-- 41 R77: EXP i completes; W[i] is the recurrence mod 2^32, SEQ goes on, nothing else changes. -/
def Obligations.ExpDerivesWordByRecurrence : Prop :=
  ∀ (i : Fin 64) (s : State), 16 ≤ i.val → (encode (.exp i)).toNat = 0x0C0 + i.val ∧ ∃ t, exec (.exp i) s = .next t ∧
    t.seq.toNat = (if i.val < 63 then 0x0C1 + i.val else 0x100) ∧
    (∀ x2 x7 x15 x16 : Word, s.w[i.val - 2]? = some (some x2) → s.w[i.val - 7]? = some (some x7) →
      s.w[i.val - 15]? = some (some x15) → s.w[i.val - 16]? = some (some x16) →
      ∃ v, t.w[i] = some v ∧
        v.toNat = ((sigma1 x2).toNat + x7.toNat + (sigma0 x15).toNat + x16.toNat) % 2 ^ 32) ∧
    (∀ k : Fin 64, k ≠ i → t.w[k] = s.w[k]) ∧
    s.sameBlock t ∧ t.trace = s.trace ∧ t.hash = s.hash ∧ s.sameRegs t ∧ s.sameTemps t ∧ s.sameStatus t ∧ s.sameOutside t

/-- EXP of an index below 16 is no micro-operation (30 R49). That `exec` has an arm for it, and that this arm is the
refusal of the reserved SEQ value, is the model's choice: DESIGN CHOICE, log entry 10. -/
def Obligations.ExpBelowSixteenIsRefused : Prop :=
  ∀ (i : Fin 64) (s : State), i.val < 16 →
    exec (.exp i) s = .refused (.reserved (.index 3 (BitVec.ofNat 6 i.val)))

/-- 42 R85: INI completes; a..h are H[0..7] in order, SEQ = (ROUNDS, 0), nothing else changes. -/
def Obligations.IniCopiesHashToRegs : Prop :=
  encode .ini = 0x100 ∧ ∀ s : State, ∃ t, exec .ini s = .next t ∧ t.seq = 0x140 ∧
    (∀ v : Vector Word 8, s.holdsHash v → t.a = some v[0] ∧ t.b = some v[1] ∧ t.c = some v[2] ∧ t.d = some v[3] ∧
      t.e = some v[4] ∧ t.f = some v[5] ∧ t.g = some v[6] ∧ t.h = some v[7]) ∧
    s.sameBlock t ∧ t.w = s.w ∧ t.trace = s.trace ∧ t.hash = s.hash ∧ s.sameTemps t ∧ s.sameStatus t ∧ s.sameOutside t

/-- 42 R86: RND i completes; T1 and T2 are the two sums mod 2^32 of the registers before the round, the eight registers
rotate, TRACE[i] is the record in the slot order of 30 R52, SEQ goes on, nothing else changes. -/
def Obligations.RndDoesOneRound : Prop :=
  ∀ (i : Fin 64) (s : State), (encode (.rnd i)).toNat = 0x140 + i.val ∧ ∃ t, exec (.rnd i) s = .next t ∧
    t.seq.toNat = (if i.val < 63 then 0x141 + i.val else 0x180) ∧
    (∀ (r : WorkingRegs) (w : Word), s.holdsRegs r → s.w[i] = some w →
      ∃ x y na ne : Word, t.t1 = some x ∧ t.t2 = some y ∧
        x.toNat = (r.h.toNat + (bigSigma1 r.e).toNat + (ch r.e r.f r.g).toNat + s.config.k[i].toNat + w.toNat) % 2 ^ 32 ∧
        y.toNat = ((bigSigma0 r.a).toNat + (maj r.a r.b r.c).toNat) % 2 ^ 32 ∧
        na.toNat = (x.toNat + y.toNat) % 2 ^ 32 ∧ ne.toNat = (r.d.toNat + x.toNat) % 2 ^ 32 ∧
        t.holdsRegs ⟨na, r.a, r.b, r.c, ne, r.e, r.f, r.g⟩ ∧
        t.trace[i] = some ⟨BitVec.ofNat 32 i.val, w, na, r.a, r.b, r.c, ne, r.e, r.f, r.g, x, y⟩) ∧
    (∀ k : Fin 64, k ≠ i → t.trace[k] = s.trace[k]) ∧
    s.sameBlock t ∧ t.w = s.w ∧ t.hash = s.hash ∧ s.sameStatus t ∧ s.sameOutside t

/-- 43 R95: FIN completes; H[k] is H[k] plus register k mod 2^32, VALID = 1, SEQ = (DONE, 0), nothing else changes. -/
def Obligations.FinAddsRegsIntoHash : Prop :=
  encode .fin = 0x180 ∧ ∀ s : State, ∃ t, exec .fin s = .next t ∧ t.seq = 0x1C0 ∧ t.valid = true ∧
    (∀ (v : Vector Word 8) (r : WorkingRegs), s.holdsHash v → s.holdsRegs r →
      ∀ k : Fin 8, ∃ o, t.hash[k] = some o ∧
        o.toNat = (v[k].toNat + (#v[r.a, r.b, r.c, r.d, r.e, r.f, r.g, r.h] : Vector Word 8)[k].toNat) % 2 ^ 32) ∧
    s.sameBlock t ∧ t.w = s.w ∧ t.trace = s.trace ∧ s.sameRegs t ∧ s.sameTemps t ∧ t.err = s.err ∧ t.ecode = s.ecode ∧
    s.sameOutside t

/-- 44 R103 (and the pseudocode of R104, R105): WAIT, HLT and ERH complete; with a start presented they accept it, BLK
and LEN unchanged; without one they stay in their phase and change nothing else. -/
def Obligations.WaitingAcceptsStartOrStays : Prop :=
  ∀ (i : Instr) (s : State), waits i →
    (s.start = true → ∃ t, exec i s = .next t ∧ t.valid = false ∧ t.err = false ∧ t.ecode = 0 ∧ t.noResults ∧
      t.seq = 0x040 ∧ s.sameBlock t ∧ s.sameOutside t) ∧
    (s.start = false → exec i s = .next { s with seq := encode i })

/-! ### One step -/

/-- 30 R45, 45 R113, R115: when SEQ decodes and the host does nothing, lets the sequencer move, or presents a start,
the step is the meaning of that micro-operation on that state, its start input ended afterwards. That the input stands
in the state, and ends with the micro-operation, is the model's form (log entry 3). -/
def Obligations.StepRunsSelectedMicroOperation : Prop :=
  ∀ (s : State) (i : Instr), decode s.seq = .ok i →
    (s.pending = [] → step s = dropStart (exec i s)) ∧
    (∀ rest, s.pending = .quiet :: rest → step s = dropStart (exec i { s with pending := rest, start := false })) ∧
    (∀ rest, s.pending = .act .start :: rest → step s = dropStart (exec i { s with pending := rest, start := true }))

/-- 45 R113: a transaction other than H_START takes effect on its own, between two micro-operations. That it is a step
of its own is the model's form (log entry 2). -/
def Obligations.TransactionIsAStepOfItsOwn : Prop :=
  ∀ (s : State) (x : Transaction) (rest : List HostMove), s.pending = .act x :: rest → x ≠ .start →
    step s = .next (transact x { s with pending := rest })

/-- 44 R106: the next SEQ of every one of the 134 SEQ values is the table's, and it decodes: with a start presented by
H_START, with none, and with the start input as it stands when the host makes no move. -/
def Obligations.NextSeqFollowsTheTable : Prop :=
  ∀ s : State, (∃ i, decode s.seq = .ok i) →
    let goesOn (start : Bool) : Prop := ∃ t, step s = .next t ∧
      t.seq.toNat = tableNextSeq s.seq.toNat start s.len ∧ ∃ i, decode t.seq = .ok i
    (s.pending = [] → goesOn s.start) ∧ (∀ rest, s.pending = .quiet :: rest → goesOn false) ∧
      ∀ rest, s.pending = .act .start :: rest → goesOn true

/-! ### Invariants -/

/-- Every step keeps the invariant of the machine: the status fields agree with the phase, LEN fits in LENW bits, BLK
is canonical and holds a value below LEN only, and every store holds exactly what the phase says (44 R106, 10 R11, R12,
R20, R25; 70 R149). -/
def Obligations.InvariantKeptByEveryStep : Prop := ∀ s t : State, s.Inv → step s = .next t → t.Inv

/-- The reset state of every legal configuration meets the invariant, that of the defaults among them (10 R26). -/
def Obligations.InvariantAtReset : Prop := (∀ c : Config, c.legal → (State.resetOf c).Inv) ∧ State.reset.Inv

/-- No state that meets the invariant is refused: a reserved SEQ value is unreachable (30 R49). -/
def Obligations.InvariantStatesAlwaysStep : Prop := ∀ s : State, s.Inv → ∃ t, step s = .next t

/-- 70 R149: no micro-operation reads an element that holds no value. -/
def Obligations.NoReadOfAnElementWithoutValue : Prop :=
  ∀ (s : State) (i : Instr), s.Inv → decode s.seq = .ok i → readsHoldValues i s

/-- BLK stays in canonical form in every step, whatever else the state holds: addresses strictly rising, inside the
0..63 of 20 R30. The form is the model's: DESIGN CHOICE, log entry 14. -/
def Obligations.BlockStoreStaysCanonical : Prop := ∀ s t : State, s.blk.wf → step s = .next t → t.blk.wf

/-! ### Whole-machine rules -/

/-- 43 R95, 10 R20: only FIN sets VALID. -/
def Obligations.OnlyFinSetsValid : Prop :=
  ∀ s t : State, step s = .next t → s.valid = false → t.valid = true → decode s.seq = .ok .fin

/-- 60 R125: only CHK raises, only when LEN is not 64, and the error is InvalidInput in phase ERROR,
LEN keeping the length presented. -/
def Obligations.OnlyChkRaisesInvalidInput : Prop :=
  ∀ s t : State, step s = .next t → s.err = false → t.err = true →
    decode s.seq = .ok .chk ∧ s.len ≠ 64 ∧ t.len = s.len ∧ t.ecode = 1 ∧ t.seq = 0x200

/-- 42 R87: TRACE[k] comes to hold a record only by RND k. -/
def Obligations.TraceRecordWrittenOnlyByItsRound : Prop :=
  ∀ (s t : State) (k : Fin 64) (r : TraceRecord), step s = .next t → t.trace[k] = some r → s.trace[k] ≠ some r →
    decode s.seq = .ok (.rnd k)

/-- 70 R143, 45 R120: while BUSY = 1 no step changes BLK or LEN, unless the host resets the block. -/
def Obligations.BlockFixedWhileBusy : Prop :=
  ∀ s t : State, s.busy = true → step s = .next t → (∀ rest, s.pending ≠ .act .reset :: rest) →
    t.blk = s.blk ∧ t.len = s.len

/-- 44 R104, 20 R39: in DONE, as long as no start is presented and no reset is made, every result store and VALID keep
their values, whatever the host reads or loads. -/
def Obligations.ResultsStableWhileDone : Prop :=
  ∀ s t : State, s.succeeded → step s = .next t → s.start = false →
    (∀ rest, s.pending ≠ .act .start :: rest ∧ s.pending ≠ .act .reset :: rest) →
    s.sameResults t ∧ t.valid = s.valid ∧ t.succeeded

/-- 44 R108, 43 R98: from a waiting phase with a start presented and a block of 64 bytes loaded, the accepting step and
131 micro-operations end in DONE with every result store holding what `compress(block, init)` gives for the instance's
K and init = IV, VALID = 1, no error, the block unchanged: whatever the host reads, loads or starts meanwhile, unless it
resets the block. -/
def Obligations.RunComputesCompress : Prop :=
  ∀ (s : State) (i : Instr) (block : Vector Byte 64) (rest : List HostMove), decode s.seq = .ok i → waits i →
    s.presents rest → .act .reset ∉ rest → s.holdsBlock block →
    ∃ n t, runsTo s rest 131 n t ∧ t.succeeded ∧ t.valid = true ∧ t.err = false ∧ t.holdsResults block ∧
      s.sameBlock t ∧ t.config = s.config

/-- 44 R108, 60 R131: with any other length the accepting step and one micro-operation end in ERROR with ERR = 1,
ECODE = 1, no result store readable, BLK and LEN unchanged: whatever the host reads, loads or starts meanwhile, unless
it resets the block. -/
def Obligations.WrongLengthEndsInError : Prop :=
  ∀ (s : State) (i : Instr) (rest : List HostMove), decode s.seq = .ok i → waits i → s.presents rest →
    .act .reset ∉ rest → s.len ≠ 64 →
    ∃ n t, runsTo s rest 1 n t ∧ t.failed ∧ t.err = true ∧ t.ecode = 1 ∧ t.valid = false ∧ t.noResults ∧ s.sameBlock t

/-- 43 R99: two invocations on the same block, on instances with the same K and IV, end with identical results, whatever
else the two states held and whatever the two hosts do meanwhile short of a reset. -/
def Obligations.EqualBlocksGiveEqualResults : Prop :=
  ∀ (s s' : State) (i i' : Instr) (block : Vector Byte 64) (rest rest' : List HostMove),
    decode s.seq = .ok i → waits i → s.presents rest → .act .reset ∉ rest → s.holdsBlock block →
    decode s'.seq = .ok i' → waits i' → s'.presents rest' → .act .reset ∉ rest' → s'.holdsBlock block →
    s'.config.k = s.config.k → s'.config.iv = s.config.iv →
    ∃ n n' t t', runsTo s rest 131 n t ∧ runsTo s' rest' 131 n' t' ∧ t.sameResults t' ∧
      hostReadDigest t = hostReadDigest t' ∧ (hostReadDigest t).isSome

/-! ### The pure operations -/

/-- 41 R79 (a), (b): words 0..15 of a schedule are the big-endian groups of the block, words 16..63 meet the
recurrence. -/
def Obligations.ScheduleIsGroupsThenRecurrence : Prop :=
  ∀ block : Vector Byte 64,
    (∀ j : Fin 16, (scheduleOf block)[loadIndex j].toNat =
      block[byteIndex j 0].toNat * 2 ^ 24 + block[byteIndex j 1].toNat * 2 ^ 16 +
        block[byteIndex j 2].toNat * 2 ^ 8 + block[byteIndex j 3].toNat) ∧
    ∀ i p2 p7 p15 p16 : Fin 64, p2.val + 2 = i.val → p7.val + 7 = i.val → p15.val + 15 = i.val → p16.val + 16 = i.val →
      (scheduleOf block)[i].toNat =
        ((sigma1 (scheduleOf block)[p2]).toNat + (scheduleOf block)[p7].toNat +
          (sigma0 (scheduleOf block)[p15]).toNat + (scheduleOf block)[p16].toNat) % 2 ^ 32

/-- 41 R79 (d): the first sixteen words of a schedule determine the block. -/
def Obligations.FirstSixteenWordsDetermineBlock : Prop :=
  ∀ b b' : Vector Byte 64, (∀ j : Fin 16, (scheduleOf b)[loadIndex j] = (scheduleOf b')[loadIndex j]) → b = b'

/-- 42 R89 (a), (c), (d): in a trace, for any K, W and init: a = t1 + t2 and e = previous d + t1 mod 2^32, the other
registers are the previous ones shifted, and the record carries its index and word; the previous registers of record 0
are init. -/
def Obligations.TraceRecordsAreConsistent : Prop :=
  ∀ (k w : Vector Word 64) (init : Vector Word 8) (i : Fin 64),
    let records := (runRounds k w init).1
    let r := records[i]
    let p : WorkingRegs :=
      if i.val = 0 then ⟨init[0], init[1], init[2], init[3], init[4], init[5], init[6], init[7]⟩
      else let q := records[backIndex i 1]; ⟨q.a, q.b, q.c, q.d, q.e, q.f, q.g, q.h⟩
    r.a.toNat = (r.t1.toNat + r.t2.toNat) % 2 ^ 32 ∧ r.e.toNat = (p.d.toNat + r.t1.toNat) % 2 ^ 32 ∧
      r.b = p.a ∧ r.c = p.b ∧ r.d = p.c ∧ r.f = p.e ∧ r.g = p.f ∧ r.h = p.g ∧
      r.idx.toNat = i.val ∧ r.w = w[i]

/-- 42 R89 (b): one round on the registers of a record, with the next K and W, gives the next record, and the last
record's registers are the final ones. -/
def Obligations.ReplayFromAnyRecordGivesTheNext : Prop :=
  ∀ (k w : Vector Word 64) (init : Vector Word 8),
    let records := (runRounds k w init).1
    let regs (q : TraceRecord) : WorkingRegs := ⟨q.a, q.b, q.c, q.d, q.e, q.f, q.g, q.h⟩
    (∀ i n : Fin 64, n.val = i.val + 1 →
      let x := roundT1 (regs records[i]) k[n] w[n]
      let y := roundT2 (regs records[i])
      records[n] = snapshot n w[n] (rotateRegs (regs records[i]) x y) x y) ∧
    (runRounds k w init).2 = regs records[63]

/-- 43 R96, 20 R32: the digest is 32 bytes, byte 4k + m the m-th byte of word k from the most significant end. -/
def Obligations.DigestIsBigEndian : Prop :=
  ∀ v : Vector Word 8, (digestOf v).length = 32 ∧
    ∀ (k : Fin 8) (m : Fin 4), ∃ b : Byte, (digestOf v)[4 * k.val + m.val]? = some b ∧
      b.toNat = v[k].toNat / 2 ^ (24 - 8 * m.val) % 256

/-- 41 R78: expand_schedule gives a schedule exactly for a block of 64 bytes, else InvalidInput. -/
def Obligations.ExpandScheduleRejectsWrongLength : Prop :=
  ∀ block : List Byte,
    (∀ b : Vector Byte 64, b.toList = block → expandSchedule block = .ok (scheduleOf b)) ∧
    (block.length ≠ 64 → ∃ e, expandSchedule block = .error e)

/-- 10 R21, R22: K[i] is the first 32 bits of the fractional part of the cube root of the i-th prime, IV[k] of the
square root of the k-th, counted from 0, in the default configuration. The spec takes this from general knowledge (93
G1, G2): PRESUMED, log entry 7. -/
def Obligations.ConstantsAreRootsOfPrimes : Prop :=
  (∀ i : Fin 64, ∃ n : Nat, (n * 2 ^ 32 + State.reset.config.k[i].toNat) ^ 3 ≤ Nat.nth Nat.Prime i.val * 2 ^ 96 ∧
    Nat.nth Nat.Prime i.val * 2 ^ 96 < (n * 2 ^ 32 + State.reset.config.k[i].toNat + 1) ^ 3) ∧
  ∀ k : Fin 8, ∃ n : Nat, (n * 2 ^ 32 + State.reset.config.iv[k].toNat) ^ 2 ≤ Nat.nth Nat.Prime k.val * 2 ^ 64 ∧
    Nat.nth Nat.Prime k.val * 2 ^ 64 < (n * 2 ^ 32 + State.reset.config.iv[k].toNat + 1) ^ 2

/-! ### The host interface (spec/45_host_interface.md) -/

/-- 10 R12: for every LENW of at least 7, LEN is 64 exactly when 64 bytes were presented, and it always fits. -/
def Obligations.LengthIsSixtyFourOnlyForSixtyFourBytes : Prop :=
  ∀ lenw n : Nat, 7 ≤ lenw → (lengthOf lenw n = 64 ↔ n = 64) ∧ lengthOf lenw n < 2 ^ lenw

/-- 45 R114: the transaction H_LOAD while BUSY = 0 stores the length, saturated, and the first 64 bytes; the bytes it
does not reach hold no value; nothing else changes. While BUSY = 1 it has no effect. -/
def Obligations.HostLoadStoresTheBlock : Prop :=
  ∀ (bytes : List Byte) (s : State), let t := transact (.load bytes) s
    (s.busy = true → t = s) ∧ (s.busy = false →
      t.len = min bytes.length (2 ^ s.config.lenw - 1) ∧
      (∀ j, j < min bytes.length 64 → t.blk.read j = bytes[j]?) ∧
      (∀ j, min bytes.length 64 ≤ j → t.blk.read j = none) ∧
      t.seq = s.seq ∧ s.sameStatus t ∧ s.sameResults t ∧ s.sameOutside t)

/-- 45 R120, 10 R20: while BUSY = 1, that is in the phases 1 (CHECK) to 6 (FINAL), the transaction H_LOAD changes
nothing, its step only takes it off the host's list, and a start that is presented changes nothing and is not
remembered: the step is the step without it. The model's choices in it: that BUSY is 0 in the reserved phases 9 to 15
and that an H_LOAD on a reserved SEQ value of the phases 1 to 6 has a next state (DESIGN CHOICE, log entry 10), and that
a transaction is a step which takes the move off the host's list (DESIGN CHOICE, log entry 2). -/
def Obligations.BusyLockIgnoresLoadAndStart : Prop :=
  ∀ s : State, (s.busy = true ↔ 1 ≤ s.seq.toNat / 64 ∧ s.seq.toNat / 64 ≤ 6) ∧ (s.busy = true →
    (∀ bytes, transact (.load bytes) s = s) ∧
    (∀ bytes rest, s.pending = .act (.load bytes) :: rest → step s = .next { s with pending := rest }) ∧
    (∀ rest, step { s with pending := .act .start :: rest } = step { s with pending := .quiet :: rest }))

/-- 45 R117, 70 R144: with VALID = 0 the five result reads return nothing; with BUSY = 1 or LEN other than 64,
H_READ_BLK returns nothing. -/
def Obligations.ReadsReturnNothingBehindTheGate : Prop :=
  ∀ s : State,
    (s.valid = false → hostReadW s = none ∧ hostReadTrace s = none ∧ hostReadRegs s = none ∧ hostReadHash s = none ∧
      hostReadDigest s = none) ∧
    ((s.busy = true ∨ s.len ≠ 64) → hostReadBlk s = none)

/-- 45 R117, 43 R98: after an invocation the five result reads return the five results of `compress` and the t1, t2 of
round 63. -/
def Obligations.ReadsReturnTheResults : Prop :=
  ∀ (s : State) (block : Vector Byte 64), s.valid = true → s.holdsResults block →
    let r := compressSchedule s.config.k s.config.iv (scheduleOf block)
    hostReadW s = some r.schedule.toList ∧ hostReadTrace s = some r.trace.toList ∧
      hostReadRegs s = some (r.regs, r.trace[63].t1, r.trace[63].t2) ∧ hostReadHash s = some r.out.toList ∧
      hostReadDigest s = some r.digest

/-- 45 R117: with BUSY = 0 and LEN = 64, H_READ_BLK returns the 64 bytes of the block. -/
def Obligations.BlockReadReturnsTheBytes : Prop :=
  ∀ (s : State) (block : Vector Byte 64), s.busy = false → s.holdsBlock block → hostReadBlk s = some block.toList

/-- 20 R36, 45 R116, R117: what each read transaction answers, and that it changes nothing of the block: only the
host's list of answers grows (the model's own field, log entry 2). -/
def Obligations.HostReadsChangeNothing : Prop :=
  ∀ s : State,
    transact .readStatus s = { s with replies := .status s.config.lenw s.statusWord :: s.replies } ∧
    transact .readW s = { s with replies := .schedule (hostReadW s) :: s.replies } ∧
    transact .readTrace s = { s with replies := .trace (hostReadTrace s) :: s.replies } ∧
    transact .readRegs s = { s with replies := .regs (hostReadRegs s) :: s.replies } ∧
    transact .readHash s = { s with replies := .hash (hostReadHash s) :: s.replies } ∧
    transact .readDigest s = { s with replies := .digest (hostReadDigest s) :: s.replies } ∧
    transact .readBlk s = { s with replies := .block (hostReadBlk s) :: s.replies }

/-- 70 R140, 10 R26: a reset, at any time: SEQ = (IDLE, 0), VALID, ERR, ECODE and LEN are 0, BLK and every result store
hold no value; K and IV are unaffected. -/
def Obligations.ResetAtAnyTime : Prop :=
  ∀ (s : State) (rest : List HostMove), s.pending = .act .reset :: rest →
    ∃ t, step s = .next t ∧ t.seq = 0x000 ∧ t.valid = false ∧ t.err = false ∧ t.ecode = 0 ∧ t.len = 0 ∧
      (∀ a, t.blk.read a = none) ∧ t.noResults ∧ t.config = s.config

/-- 10 R26: the state after reset, for every configuration and so for the defaults: SEQ = 0x000, VALID, ERR, ECODE and
LEN are 0, BLK and every result store hold no value, DIGEST has none, K and IV are the configuration's. -/
def Obligations.ResetValuesAreTheSpecs : Prop :=
  State.reset = State.resetOf {} ∧ ∀ c : Config, let s := State.resetOf c
    s.seq = 0x000 ∧ s.valid = false ∧ s.err = false ∧ s.ecode = 0 ∧ s.len = 0 ∧ (∀ a, s.blk.read a = none) ∧
      s.noResults ∧ hostReadDigest s = none ∧ s.config = c

/-- 30 R51: the fields of the status word, for every LENW: from the least significant end LEN in LENW bits, ECODE in two,
ERR, VALID, SEQ in ten. With LENW = 8 these are 7:0, 9:8, 10, 11, 21:12. -/
def Obligations.StatusWordLayout : Prop :=
  ∀ s : State, let n := s.config.lenw
    s.statusWord.extractLsb' (n + 4) 10 = s.seq ∧ s.statusWord.getLsbD (n + 3) = s.valid ∧
      s.statusWord.getLsbD (n + 2) = s.err ∧ s.statusWord.extractLsb' n 2 = s.ecode ∧
      (s.len < 2 ^ n → (s.statusWord.extractLsb' 0 n).toNat = s.len)

/-- 30 R52: slot m of a trace record, 32 bits, slot 0 the most significant of the twelve. -/
def Obligations.TraceRecordSlots : Prop :=
  ∀ (r : TraceRecord) (m : Fin 12), r.bits.extractLsb' (352 - 32 * m.val) 32 =
    (#v[r.idx, r.w, r.a, r.b, r.c, r.d, r.e, r.f, r.g, r.h, r.t1, r.t2] : Vector Word 12)[m]

/-- 45 R119: the padded block of a message of at most 55 bytes: 64 bytes, the message, 0x80, zeros up to offset 55, and
the bit length as a 64-bit big-endian number; none for a longer message. -/
def Obligations.PaddedBlockLayout : Prop :=
  ∀ m : List Byte,
    (m.length ≤ 55 → ∃ b, padMessage m = some b ∧ b.length = 64 ∧ (∀ j, j < m.length → b[j]? = m[j]?) ∧
      b[m.length]? = some 0x80 ∧ (∀ j, m.length < j → j < 56 → b[j]? = some 0) ∧
      (b.drop 56).foldl (fun n x => n * 256 + x.toNat) 0 = 8 * m.length) ∧
    (55 < m.length → padMessage m = none)

/-- 20 R44, 60 R137: a step of one instance of a platform is that instance's own step and leaves every other instance
as it was. -/
def Obligations.InstancesDoNotInterfere : Prop :=
  ∀ (p q : Platform) (k : Fin p.length), Platform.step p k = .next q →
    q.length = p.length ∧ (∃ t, Machine.step p[k] = .next t ∧ q[k.val]? = some t) ∧
      ∀ j, j ≠ k.val → q[j]? = p[j]?

/-! ### The configuration (spec/00_scope.md R4) -/

/-- 00 R4, 10 R23, 70 R140: no step writes the configuration, a reset neither. -/
def Obligations.ConfigurationIsNeverWritten : Prop := ∀ s t : State, step s = .next t → t.config = s.config
end

