-- ==== Sys2Proof/Laws/Decode.lean ====
section
/-! SUPPORT. The fields of a sequencer word that was put together from a phase and an index
(spec/30_encoding.md R45). -/

namespace Sys2Proof

@[simp] theorem seqPhase_seqOf (p : Phase) (n : BitVec 6) : seqPhase (seqOf p n) = p.code := by
  revert n; cases p <;> decide

@[simp] theorem seqIdx_seqOf (p : Phase) (n : BitVec 6) : seqIdx (seqOf p n) = n := by
  revert n; cases p <;> decide

@[simp] theorem Phase.ofCode_code (p : Phase) : Phase.ofCode p.code = some p := by cases p <;> rfl

/-- The index part of a sequencer word set from a number below 64 is that number. -/
theorem seqIdx_seqOf_ofNat (p : Phase) (n : Nat) (h : n < 64) : (seqIdx (seqOf p (BitVec.ofNat 6 n))).toNat = n := by
  simp only [seqIdx_seqOf, BitVec.toNat_ofNat]
  omega

end Sys2Proof
end

