-- ==== Sys2Proof/Laws/Memory.lean ====
section
/-! SUPPORT. The laws of the byte store BLK: a read after a write, and that every operation keeps the canonical form
(spec/20_memory.md R30). -/

namespace Sys2Proof.Machine

@[simp] theorem Memory.read_nil (a : Nat) : Memory.read [] a = none := rfl

theorem Memory.read_write (m : Memory) (a k : Nat) (v : Byte) :
    (m.write a v).read k = if k = a then some v else m.read k := by
  induction m with
  | nil => simp [Memory.write, Memory.read, eq_comm]
  | cons c m ih =>
    obtain ⟨x, b⟩ := c
    by_cases h1 : a < x
    · by_cases hk : k = a
      · subst hk; simp [Memory.write, Memory.read, h1]
      · simp [Memory.write, Memory.read, h1, hk, Ne.symm hk]
    · by_cases h2 : a = x
      · subst h2
        by_cases hk : k = a
        · subst hk; simp [Memory.write, Memory.read]
        · simp [Memory.write, Memory.read, hk, Ne.symm hk]
      · simp only [Memory.write, h1, h2, if_false, Memory.read, ih]
        by_cases hx : x = k
        · subst hx; simp [Ne.symm h2]
        · simp [hx]

theorem Memory.read_write_same (m : Memory) (a : Nat) (v : Byte) : (m.write a v).read a = some v := by
  simp [Memory.read_write]

theorem Memory.read_write_other (m : Memory) (a k : Nat) (v : Byte) (h : k ≠ a) :
    (m.write a v).read k = m.read k := by
  simp [Memory.read_write, h]

/-- The addresses of a write are the old ones and the written one. -/
theorem Memory.mem_write (m : Memory) (a : Nat) (v : Byte) (c : Host.Cell) (h : c ∈ m.write a v) :
    c = (a, v) ∨ c ∈ m := by
  induction m with
  | nil => simpa [Memory.write] using h
  | cons d m ih =>
    obtain ⟨x, b⟩ := d
    unfold Memory.write at h
    split at h
    · simpa using h
    · split at h
      · rcases List.mem_cons.1 h with h | h
        · exact .inl h
        · exact .inr (List.mem_cons_of_mem _ h)
      · rcases List.mem_cons.1 h with h | h
        · exact .inr (h ▸ List.mem_cons_self)
        · rcases ih h with h | h
          · exact .inl h
          · exact .inr (List.mem_cons_of_mem _ h)

/-- A write keeps the addresses strictly rising. -/
theorem Memory.rising_write (m : Memory) (a : Nat) (v : Byte) (h : (m.map (·.1)).Pairwise (· < ·)) :
    ((m.write a v).map (·.1)).Pairwise (· < ·) := by
  induction m with
  | nil => simp [Memory.write]
  | cons d m ih =>
    obtain ⟨x, b⟩ := d
    obtain ⟨hx, hm⟩ := List.pairwise_cons.1 h
    unfold Memory.write
    split
    · rename_i hax
      refine List.pairwise_cons.2 ⟨fun y hy => ?_, h⟩
      rcases List.mem_cons.1 hy with rfl | hy
      · exact hax
      · exact lt_trans hax (hx y hy)
    · split
      · rename_i hax
        exact List.pairwise_cons.2 ⟨hax ▸ hx, hm⟩
      · refine List.pairwise_cons.2 ⟨fun y hy => ?_, ih hm⟩
        obtain ⟨c, hc, rfl⟩ := List.mem_map.1 hy
        rcases Memory.mem_write m a v c hc with rfl | hc
        · show x < a
          omega
        · exact hx _ (List.mem_map_of_mem hc)

/-- A write inside the store keeps the canonical form. -/
theorem Memory.wf_write (m : Memory) (a : Nat) (v : Byte) (h : m.wf) (ha : a < 64) : (m.write a v).wf :=
  ⟨Memory.rising_write m a v h.1, fun c hc => by
    rcases Memory.mem_write m a v c hc with rfl | hc
    · exact ha
    · exact h.2 c hc⟩

/-- Writing bytes inside the store keeps the canonical form. -/
theorem Memory.wf_writeBytes (m : Memory) (a : Nat) (vs : List Byte) (h : m.wf) (ha : a + vs.length ≤ 64) :
    (m.writeBytes a vs).wf := by
  induction vs generalizing m a with
  | nil => exact h
  | cons v vs ih =>
    have ha : a + (vs.length + 1) ≤ 64 := by simpa using ha
    exact ih (m.write a v) (a + 1) (Memory.wf_write m a v h (by omega)) (by omega)

/-- The byte at an address after bytes were written from `a` on. -/
theorem Memory.read_writeBytes (m : Memory) (a k : Nat) (vs : List Byte) :
    (m.writeBytes a vs).read k = if a ≤ k ∧ k < a + vs.length then vs[k - a]? else m.read k := by
  induction vs generalizing m a with
  | nil =>
    have : ¬(a ≤ k ∧ k < a) := by omega
    simp [Memory.writeBytes, this]
  | cons v vs ih =>
    rw [Memory.writeBytes, ih, Memory.read_write, List.length_cons]
    by_cases h1 : k = a
    · subst h1
      simp
    · by_cases h2 : a + 1 ≤ k ∧ k < a + 1 + vs.length
      · have h3 : a ≤ k ∧ k < a + (vs.length + 1) := by omega
        rw [if_pos h2, if_pos h3, show k - a = (k - (a + 1)) + 1 by omega, List.getElem?_cons_succ]
      · have h3 : ¬(a ≤ k ∧ k < a + (vs.length + 1)) := by omega
        rw [if_neg h2, if_neg h3, if_neg h1]

/-- The empty store is in canonical form. -/
theorem Memory.wf_nil : Memory.wf [] := ⟨List.Pairwise.nil, fun _ h => absurd h List.not_mem_nil⟩

/-- The reset state's memory is in canonical form. -/
theorem State.reset_blk_wf : State.reset.blk.wf := Memory.wf_nil

/-- H_LOAD keeps the canonical form of BLK. -/
theorem hostLoad_blk_wf (bytes : List Byte) (s : State) (h : s.blk.wf) : (hostLoad bytes s).blk.wf := by
  unfold hostLoad
  split
  · exact h
  · exact Memory.wf_writeBytes [] 0 (bytes.take 64) Memory.wf_nil (by simp)

end Sys2Proof.Machine
end

