-- ==== Sys2Proof/Laws/State.lean ====
section
/-! SUPPORT. The small lemmas of State: for each named update, what every field is after it, so that no later proof
unfolds a record update. -/

namespace Sys2Proof.Machine

@[simp] theorem State.clearStatus_blk (s : State) : s.clearStatus.blk = s.blk := rfl
@[simp] theorem State.clearStatus_len (s : State) : s.clearStatus.len = s.len := rfl
@[simp] theorem State.clearStatus_w (s : State) : s.clearStatus.w = s.w := rfl
@[simp] theorem State.clearStatus_a (s : State) : s.clearStatus.a = s.a := rfl
@[simp] theorem State.clearStatus_b (s : State) : s.clearStatus.b = s.b := rfl
@[simp] theorem State.clearStatus_c (s : State) : s.clearStatus.c = s.c := rfl
@[simp] theorem State.clearStatus_d (s : State) : s.clearStatus.d = s.d := rfl
@[simp] theorem State.clearStatus_e (s : State) : s.clearStatus.e = s.e := rfl
@[simp] theorem State.clearStatus_f (s : State) : s.clearStatus.f = s.f := rfl
@[simp] theorem State.clearStatus_g (s : State) : s.clearStatus.g = s.g := rfl
@[simp] theorem State.clearStatus_h (s : State) : s.clearStatus.h = s.h := rfl
@[simp] theorem State.clearStatus_t1 (s : State) : s.clearStatus.t1 = s.t1 := rfl
@[simp] theorem State.clearStatus_t2 (s : State) : s.clearStatus.t2 = s.t2 := rfl
@[simp] theorem State.clearStatus_hash (s : State) : s.clearStatus.hash = s.hash := rfl
@[simp] theorem State.clearStatus_trace (s : State) : s.clearStatus.trace = s.trace := rfl
@[simp] theorem State.clearStatus_seq (s : State) : s.clearStatus.seq = s.seq := rfl
@[simp] theorem State.clearStatus_valid (s : State) : s.clearStatus.valid = false := rfl
@[simp] theorem State.clearStatus_err (s : State) : s.clearStatus.err = false := rfl
@[simp] theorem State.clearStatus_ecode (s : State) : s.clearStatus.ecode = ecodeNone := rfl
@[simp] theorem State.clearStatus_start (s : State) : s.clearStatus.start = s.start := rfl
@[simp] theorem State.clearStatus_pending (s : State) : s.clearStatus.pending = s.pending := rfl
@[simp] theorem State.clearStatus_replies (s : State) : s.clearStatus.replies = s.replies := rfl
@[simp] theorem State.clearStatus_epoch (s : State) : s.clearStatus.epoch = s.epoch := rfl
@[simp] theorem State.clearStatus_config (s : State) : s.clearStatus.config = s.config := rfl

@[simp] theorem State.setInvalidInput_blk (s : State) : s.setInvalidInput.blk = s.blk := rfl
@[simp] theorem State.setInvalidInput_len (s : State) : s.setInvalidInput.len = s.len := rfl
@[simp] theorem State.setInvalidInput_w (s : State) : s.setInvalidInput.w = s.w := rfl
@[simp] theorem State.setInvalidInput_a (s : State) : s.setInvalidInput.a = s.a := rfl
@[simp] theorem State.setInvalidInput_b (s : State) : s.setInvalidInput.b = s.b := rfl
@[simp] theorem State.setInvalidInput_c (s : State) : s.setInvalidInput.c = s.c := rfl
@[simp] theorem State.setInvalidInput_d (s : State) : s.setInvalidInput.d = s.d := rfl
@[simp] theorem State.setInvalidInput_e (s : State) : s.setInvalidInput.e = s.e := rfl
@[simp] theorem State.setInvalidInput_f (s : State) : s.setInvalidInput.f = s.f := rfl
@[simp] theorem State.setInvalidInput_g (s : State) : s.setInvalidInput.g = s.g := rfl
@[simp] theorem State.setInvalidInput_h (s : State) : s.setInvalidInput.h = s.h := rfl
@[simp] theorem State.setInvalidInput_t1 (s : State) : s.setInvalidInput.t1 = s.t1 := rfl
@[simp] theorem State.setInvalidInput_t2 (s : State) : s.setInvalidInput.t2 = s.t2 := rfl
@[simp] theorem State.setInvalidInput_hash (s : State) : s.setInvalidInput.hash = s.hash := rfl
@[simp] theorem State.setInvalidInput_trace (s : State) : s.setInvalidInput.trace = s.trace := rfl
@[simp] theorem State.setInvalidInput_seq (s : State) : s.setInvalidInput.seq = s.seq := rfl
@[simp] theorem State.setInvalidInput_valid (s : State) : s.setInvalidInput.valid = s.valid := rfl
@[simp] theorem State.setInvalidInput_err (s : State) : s.setInvalidInput.err = true := rfl
@[simp] theorem State.setInvalidInput_ecode (s : State) : s.setInvalidInput.ecode = ecodeInvalidInput := rfl
@[simp] theorem State.setInvalidInput_start (s : State) : s.setInvalidInput.start = s.start := rfl
@[simp] theorem State.setInvalidInput_pending (s : State) : s.setInvalidInput.pending = s.pending := rfl
@[simp] theorem State.setInvalidInput_replies (s : State) : s.setInvalidInput.replies = s.replies := rfl
@[simp] theorem State.setInvalidInput_epoch (s : State) : s.setInvalidInput.epoch = s.epoch := rfl
@[simp] theorem State.setInvalidInput_config (s : State) : s.setInvalidInput.config = s.config := rfl

@[simp] theorem State.setValid_blk (s : State) : s.setValid.blk = s.blk := rfl
@[simp] theorem State.setValid_len (s : State) : s.setValid.len = s.len := rfl
@[simp] theorem State.setValid_w (s : State) : s.setValid.w = s.w := rfl
@[simp] theorem State.setValid_a (s : State) : s.setValid.a = s.a := rfl
@[simp] theorem State.setValid_b (s : State) : s.setValid.b = s.b := rfl
@[simp] theorem State.setValid_c (s : State) : s.setValid.c = s.c := rfl
@[simp] theorem State.setValid_d (s : State) : s.setValid.d = s.d := rfl
@[simp] theorem State.setValid_e (s : State) : s.setValid.e = s.e := rfl
@[simp] theorem State.setValid_f (s : State) : s.setValid.f = s.f := rfl
@[simp] theorem State.setValid_g (s : State) : s.setValid.g = s.g := rfl
@[simp] theorem State.setValid_h (s : State) : s.setValid.h = s.h := rfl
@[simp] theorem State.setValid_t1 (s : State) : s.setValid.t1 = s.t1 := rfl
@[simp] theorem State.setValid_t2 (s : State) : s.setValid.t2 = s.t2 := rfl
@[simp] theorem State.setValid_hash (s : State) : s.setValid.hash = s.hash := rfl
@[simp] theorem State.setValid_trace (s : State) : s.setValid.trace = s.trace := rfl
@[simp] theorem State.setValid_seq (s : State) : s.setValid.seq = s.seq := rfl
@[simp] theorem State.setValid_valid (s : State) : s.setValid.valid = true := rfl
@[simp] theorem State.setValid_err (s : State) : s.setValid.err = s.err := rfl
@[simp] theorem State.setValid_ecode (s : State) : s.setValid.ecode = s.ecode := rfl
@[simp] theorem State.setValid_start (s : State) : s.setValid.start = s.start := rfl
@[simp] theorem State.setValid_pending (s : State) : s.setValid.pending = s.pending := rfl
@[simp] theorem State.setValid_replies (s : State) : s.setValid.replies = s.replies := rfl
@[simp] theorem State.setValid_epoch (s : State) : s.setValid.epoch = s.epoch := rfl
@[simp] theorem State.setValid_config (s : State) : s.setValid.config = s.config := rfl

@[simp] theorem State.goto_blk (s : State) (p : Phase) (n : Nat) : (s.goto p n).blk = s.blk := rfl
@[simp] theorem State.goto_len (s : State) (p : Phase) (n : Nat) : (s.goto p n).len = s.len := rfl
@[simp] theorem State.goto_w (s : State) (p : Phase) (n : Nat) : (s.goto p n).w = s.w := rfl
@[simp] theorem State.goto_a (s : State) (p : Phase) (n : Nat) : (s.goto p n).a = s.a := rfl
@[simp] theorem State.goto_b (s : State) (p : Phase) (n : Nat) : (s.goto p n).b = s.b := rfl
@[simp] theorem State.goto_c (s : State) (p : Phase) (n : Nat) : (s.goto p n).c = s.c := rfl
@[simp] theorem State.goto_d (s : State) (p : Phase) (n : Nat) : (s.goto p n).d = s.d := rfl
@[simp] theorem State.goto_e (s : State) (p : Phase) (n : Nat) : (s.goto p n).e = s.e := rfl
@[simp] theorem State.goto_f (s : State) (p : Phase) (n : Nat) : (s.goto p n).f = s.f := rfl
@[simp] theorem State.goto_g (s : State) (p : Phase) (n : Nat) : (s.goto p n).g = s.g := rfl
@[simp] theorem State.goto_h (s : State) (p : Phase) (n : Nat) : (s.goto p n).h = s.h := rfl
@[simp] theorem State.goto_t1 (s : State) (p : Phase) (n : Nat) : (s.goto p n).t1 = s.t1 := rfl
@[simp] theorem State.goto_t2 (s : State) (p : Phase) (n : Nat) : (s.goto p n).t2 = s.t2 := rfl
@[simp] theorem State.goto_hash (s : State) (p : Phase) (n : Nat) : (s.goto p n).hash = s.hash := rfl
@[simp] theorem State.goto_trace (s : State) (p : Phase) (n : Nat) : (s.goto p n).trace = s.trace := rfl
@[simp] theorem State.goto_seq (s : State) (p : Phase) (n : Nat) : (s.goto p n).seq = seqOf p (BitVec.ofNat 6 n) := rfl
@[simp] theorem State.goto_valid (s : State) (p : Phase) (n : Nat) : (s.goto p n).valid = s.valid := rfl
@[simp] theorem State.goto_err (s : State) (p : Phase) (n : Nat) : (s.goto p n).err = s.err := rfl
@[simp] theorem State.goto_ecode (s : State) (p : Phase) (n : Nat) : (s.goto p n).ecode = s.ecode := rfl
@[simp] theorem State.goto_start (s : State) (p : Phase) (n : Nat) : (s.goto p n).start = s.start := rfl
@[simp] theorem State.goto_pending (s : State) (p : Phase) (n : Nat) : (s.goto p n).pending = s.pending := rfl
@[simp] theorem State.goto_replies (s : State) (p : Phase) (n : Nat) : (s.goto p n).replies = s.replies := rfl
@[simp] theorem State.goto_epoch (s : State) (p : Phase) (n : Nat) : (s.goto p n).epoch = s.epoch := rfl
@[simp] theorem State.goto_config (s : State) (p : Phase) (n : Nat) : (s.goto p n).config = s.config := rfl

@[simp] theorem State.setW_blk (s : State) (i : Fin 64) (v : Word) : (s.setW i v).blk = s.blk := rfl
@[simp] theorem State.setW_len (s : State) (i : Fin 64) (v : Word) : (s.setW i v).len = s.len := rfl
@[simp] theorem State.setW_w (s : State) (i : Fin 64) (v : Word) : (s.setW i v).w = s.w.set i.val (some v) := rfl
@[simp] theorem State.setW_a (s : State) (i : Fin 64) (v : Word) : (s.setW i v).a = s.a := rfl
@[simp] theorem State.setW_b (s : State) (i : Fin 64) (v : Word) : (s.setW i v).b = s.b := rfl
@[simp] theorem State.setW_c (s : State) (i : Fin 64) (v : Word) : (s.setW i v).c = s.c := rfl
@[simp] theorem State.setW_d (s : State) (i : Fin 64) (v : Word) : (s.setW i v).d = s.d := rfl
@[simp] theorem State.setW_e (s : State) (i : Fin 64) (v : Word) : (s.setW i v).e = s.e := rfl
@[simp] theorem State.setW_f (s : State) (i : Fin 64) (v : Word) : (s.setW i v).f = s.f := rfl
@[simp] theorem State.setW_g (s : State) (i : Fin 64) (v : Word) : (s.setW i v).g = s.g := rfl
@[simp] theorem State.setW_h (s : State) (i : Fin 64) (v : Word) : (s.setW i v).h = s.h := rfl
@[simp] theorem State.setW_t1 (s : State) (i : Fin 64) (v : Word) : (s.setW i v).t1 = s.t1 := rfl
@[simp] theorem State.setW_t2 (s : State) (i : Fin 64) (v : Word) : (s.setW i v).t2 = s.t2 := rfl
@[simp] theorem State.setW_hash (s : State) (i : Fin 64) (v : Word) : (s.setW i v).hash = s.hash := rfl
@[simp] theorem State.setW_trace (s : State) (i : Fin 64) (v : Word) : (s.setW i v).trace = s.trace := rfl
@[simp] theorem State.setW_seq (s : State) (i : Fin 64) (v : Word) : (s.setW i v).seq = s.seq := rfl
@[simp] theorem State.setW_valid (s : State) (i : Fin 64) (v : Word) : (s.setW i v).valid = s.valid := rfl
@[simp] theorem State.setW_err (s : State) (i : Fin 64) (v : Word) : (s.setW i v).err = s.err := rfl
@[simp] theorem State.setW_ecode (s : State) (i : Fin 64) (v : Word) : (s.setW i v).ecode = s.ecode := rfl
@[simp] theorem State.setW_start (s : State) (i : Fin 64) (v : Word) : (s.setW i v).start = s.start := rfl
@[simp] theorem State.setW_pending (s : State) (i : Fin 64) (v : Word) : (s.setW i v).pending = s.pending := rfl
@[simp] theorem State.setW_replies (s : State) (i : Fin 64) (v : Word) : (s.setW i v).replies = s.replies := rfl
@[simp] theorem State.setW_epoch (s : State) (i : Fin 64) (v : Word) : (s.setW i v).epoch = s.epoch := rfl
@[simp] theorem State.setW_config (s : State) (i : Fin 64) (v : Word) : (s.setW i v).config = s.config := rfl

@[simp] theorem State.setRegs_blk (s : State) (r : WorkingRegs) : (s.setRegs r).blk = s.blk := rfl
@[simp] theorem State.setRegs_len (s : State) (r : WorkingRegs) : (s.setRegs r).len = s.len := rfl
@[simp] theorem State.setRegs_w (s : State) (r : WorkingRegs) : (s.setRegs r).w = s.w := rfl
@[simp] theorem State.setRegs_a (s : State) (r : WorkingRegs) : (s.setRegs r).a = some r.a := rfl
@[simp] theorem State.setRegs_b (s : State) (r : WorkingRegs) : (s.setRegs r).b = some r.b := rfl
@[simp] theorem State.setRegs_c (s : State) (r : WorkingRegs) : (s.setRegs r).c = some r.c := rfl
@[simp] theorem State.setRegs_d (s : State) (r : WorkingRegs) : (s.setRegs r).d = some r.d := rfl
@[simp] theorem State.setRegs_e (s : State) (r : WorkingRegs) : (s.setRegs r).e = some r.e := rfl
@[simp] theorem State.setRegs_f (s : State) (r : WorkingRegs) : (s.setRegs r).f = some r.f := rfl
@[simp] theorem State.setRegs_g (s : State) (r : WorkingRegs) : (s.setRegs r).g = some r.g := rfl
@[simp] theorem State.setRegs_h (s : State) (r : WorkingRegs) : (s.setRegs r).h = some r.h := rfl
@[simp] theorem State.setRegs_t1 (s : State) (r : WorkingRegs) : (s.setRegs r).t1 = s.t1 := rfl
@[simp] theorem State.setRegs_t2 (s : State) (r : WorkingRegs) : (s.setRegs r).t2 = s.t2 := rfl
@[simp] theorem State.setRegs_hash (s : State) (r : WorkingRegs) : (s.setRegs r).hash = s.hash := rfl
@[simp] theorem State.setRegs_trace (s : State) (r : WorkingRegs) : (s.setRegs r).trace = s.trace := rfl
@[simp] theorem State.setRegs_seq (s : State) (r : WorkingRegs) : (s.setRegs r).seq = s.seq := rfl
@[simp] theorem State.setRegs_valid (s : State) (r : WorkingRegs) : (s.setRegs r).valid = s.valid := rfl
@[simp] theorem State.setRegs_err (s : State) (r : WorkingRegs) : (s.setRegs r).err = s.err := rfl
@[simp] theorem State.setRegs_ecode (s : State) (r : WorkingRegs) : (s.setRegs r).ecode = s.ecode := rfl
@[simp] theorem State.setRegs_start (s : State) (r : WorkingRegs) : (s.setRegs r).start = s.start := rfl
@[simp] theorem State.setRegs_pending (s : State) (r : WorkingRegs) : (s.setRegs r).pending = s.pending := rfl
@[simp] theorem State.setRegs_replies (s : State) (r : WorkingRegs) : (s.setRegs r).replies = s.replies := rfl
@[simp] theorem State.setRegs_epoch (s : State) (r : WorkingRegs) : (s.setRegs r).epoch = s.epoch := rfl
@[simp] theorem State.setRegs_config (s : State) (r : WorkingRegs) : (s.setRegs r).config = s.config := rfl

@[simp] theorem State.setTemps_blk (s : State) (x y : Word) : (s.setTemps x y).blk = s.blk := rfl
@[simp] theorem State.setTemps_len (s : State) (x y : Word) : (s.setTemps x y).len = s.len := rfl
@[simp] theorem State.setTemps_w (s : State) (x y : Word) : (s.setTemps x y).w = s.w := rfl
@[simp] theorem State.setTemps_a (s : State) (x y : Word) : (s.setTemps x y).a = s.a := rfl
@[simp] theorem State.setTemps_b (s : State) (x y : Word) : (s.setTemps x y).b = s.b := rfl
@[simp] theorem State.setTemps_c (s : State) (x y : Word) : (s.setTemps x y).c = s.c := rfl
@[simp] theorem State.setTemps_d (s : State) (x y : Word) : (s.setTemps x y).d = s.d := rfl
@[simp] theorem State.setTemps_e (s : State) (x y : Word) : (s.setTemps x y).e = s.e := rfl
@[simp] theorem State.setTemps_f (s : State) (x y : Word) : (s.setTemps x y).f = s.f := rfl
@[simp] theorem State.setTemps_g (s : State) (x y : Word) : (s.setTemps x y).g = s.g := rfl
@[simp] theorem State.setTemps_h (s : State) (x y : Word) : (s.setTemps x y).h = s.h := rfl
@[simp] theorem State.setTemps_t1 (s : State) (x y : Word) : (s.setTemps x y).t1 = some x := rfl
@[simp] theorem State.setTemps_t2 (s : State) (x y : Word) : (s.setTemps x y).t2 = some y := rfl
@[simp] theorem State.setTemps_hash (s : State) (x y : Word) : (s.setTemps x y).hash = s.hash := rfl
@[simp] theorem State.setTemps_trace (s : State) (x y : Word) : (s.setTemps x y).trace = s.trace := rfl
@[simp] theorem State.setTemps_seq (s : State) (x y : Word) : (s.setTemps x y).seq = s.seq := rfl
@[simp] theorem State.setTemps_valid (s : State) (x y : Word) : (s.setTemps x y).valid = s.valid := rfl
@[simp] theorem State.setTemps_err (s : State) (x y : Word) : (s.setTemps x y).err = s.err := rfl
@[simp] theorem State.setTemps_ecode (s : State) (x y : Word) : (s.setTemps x y).ecode = s.ecode := rfl
@[simp] theorem State.setTemps_start (s : State) (x y : Word) : (s.setTemps x y).start = s.start := rfl
@[simp] theorem State.setTemps_pending (s : State) (x y : Word) : (s.setTemps x y).pending = s.pending := rfl
@[simp] theorem State.setTemps_replies (s : State) (x y : Word) : (s.setTemps x y).replies = s.replies := rfl
@[simp] theorem State.setTemps_epoch (s : State) (x y : Word) : (s.setTemps x y).epoch = s.epoch := rfl
@[simp] theorem State.setTemps_config (s : State) (x y : Word) : (s.setTemps x y).config = s.config := rfl

@[simp] theorem State.setHash_blk (s : State) (v : Vector Word 8) : (s.setHash v).blk = s.blk := rfl
@[simp] theorem State.setHash_len (s : State) (v : Vector Word 8) : (s.setHash v).len = s.len := rfl
@[simp] theorem State.setHash_w (s : State) (v : Vector Word 8) : (s.setHash v).w = s.w := rfl
@[simp] theorem State.setHash_a (s : State) (v : Vector Word 8) : (s.setHash v).a = s.a := rfl
@[simp] theorem State.setHash_b (s : State) (v : Vector Word 8) : (s.setHash v).b = s.b := rfl
@[simp] theorem State.setHash_c (s : State) (v : Vector Word 8) : (s.setHash v).c = s.c := rfl
@[simp] theorem State.setHash_d (s : State) (v : Vector Word 8) : (s.setHash v).d = s.d := rfl
@[simp] theorem State.setHash_e (s : State) (v : Vector Word 8) : (s.setHash v).e = s.e := rfl
@[simp] theorem State.setHash_f (s : State) (v : Vector Word 8) : (s.setHash v).f = s.f := rfl
@[simp] theorem State.setHash_g (s : State) (v : Vector Word 8) : (s.setHash v).g = s.g := rfl
@[simp] theorem State.setHash_h (s : State) (v : Vector Word 8) : (s.setHash v).h = s.h := rfl
@[simp] theorem State.setHash_t1 (s : State) (v : Vector Word 8) : (s.setHash v).t1 = s.t1 := rfl
@[simp] theorem State.setHash_t2 (s : State) (v : Vector Word 8) : (s.setHash v).t2 = s.t2 := rfl
@[simp] theorem State.setHash_hash (s : State) (v : Vector Word 8) :
    (s.setHash v).hash = #v[some v[0], some v[1], some v[2], some v[3], some v[4], some v[5], some v[6], some v[7]] := rfl
@[simp] theorem State.setHash_trace (s : State) (v : Vector Word 8) : (s.setHash v).trace = s.trace := rfl
@[simp] theorem State.setHash_seq (s : State) (v : Vector Word 8) : (s.setHash v).seq = s.seq := rfl
@[simp] theorem State.setHash_valid (s : State) (v : Vector Word 8) : (s.setHash v).valid = s.valid := rfl
@[simp] theorem State.setHash_err (s : State) (v : Vector Word 8) : (s.setHash v).err = s.err := rfl
@[simp] theorem State.setHash_ecode (s : State) (v : Vector Word 8) : (s.setHash v).ecode = s.ecode := rfl
@[simp] theorem State.setHash_start (s : State) (v : Vector Word 8) : (s.setHash v).start = s.start := rfl
@[simp] theorem State.setHash_pending (s : State) (v : Vector Word 8) : (s.setHash v).pending = s.pending := rfl
@[simp] theorem State.setHash_replies (s : State) (v : Vector Word 8) : (s.setHash v).replies = s.replies := rfl
@[simp] theorem State.setHash_epoch (s : State) (v : Vector Word 8) : (s.setHash v).epoch = s.epoch := rfl
@[simp] theorem State.setHash_config (s : State) (v : Vector Word 8) : (s.setHash v).config = s.config := rfl

@[simp] theorem State.setTrace_blk (s : State) (i : Fin 64) (r : TraceRecord) : (s.setTrace i r).blk = s.blk := rfl
@[simp] theorem State.setTrace_len (s : State) (i : Fin 64) (r : TraceRecord) : (s.setTrace i r).len = s.len := rfl
@[simp] theorem State.setTrace_w (s : State) (i : Fin 64) (r : TraceRecord) : (s.setTrace i r).w = s.w := rfl
@[simp] theorem State.setTrace_a (s : State) (i : Fin 64) (r : TraceRecord) : (s.setTrace i r).a = s.a := rfl
@[simp] theorem State.setTrace_b (s : State) (i : Fin 64) (r : TraceRecord) : (s.setTrace i r).b = s.b := rfl
@[simp] theorem State.setTrace_c (s : State) (i : Fin 64) (r : TraceRecord) : (s.setTrace i r).c = s.c := rfl
@[simp] theorem State.setTrace_d (s : State) (i : Fin 64) (r : TraceRecord) : (s.setTrace i r).d = s.d := rfl
@[simp] theorem State.setTrace_e (s : State) (i : Fin 64) (r : TraceRecord) : (s.setTrace i r).e = s.e := rfl
@[simp] theorem State.setTrace_f (s : State) (i : Fin 64) (r : TraceRecord) : (s.setTrace i r).f = s.f := rfl
@[simp] theorem State.setTrace_g (s : State) (i : Fin 64) (r : TraceRecord) : (s.setTrace i r).g = s.g := rfl
@[simp] theorem State.setTrace_h (s : State) (i : Fin 64) (r : TraceRecord) : (s.setTrace i r).h = s.h := rfl
@[simp] theorem State.setTrace_t1 (s : State) (i : Fin 64) (r : TraceRecord) : (s.setTrace i r).t1 = s.t1 := rfl
@[simp] theorem State.setTrace_t2 (s : State) (i : Fin 64) (r : TraceRecord) : (s.setTrace i r).t2 = s.t2 := rfl
@[simp] theorem State.setTrace_hash (s : State) (i : Fin 64) (r : TraceRecord) : (s.setTrace i r).hash = s.hash := rfl
@[simp] theorem State.setTrace_trace (s : State) (i : Fin 64) (r : TraceRecord) : (s.setTrace i r).trace = s.trace.set i.val (some r) := rfl
@[simp] theorem State.setTrace_seq (s : State) (i : Fin 64) (r : TraceRecord) : (s.setTrace i r).seq = s.seq := rfl
@[simp] theorem State.setTrace_valid (s : State) (i : Fin 64) (r : TraceRecord) : (s.setTrace i r).valid = s.valid := rfl
@[simp] theorem State.setTrace_err (s : State) (i : Fin 64) (r : TraceRecord) : (s.setTrace i r).err = s.err := rfl
@[simp] theorem State.setTrace_ecode (s : State) (i : Fin 64) (r : TraceRecord) : (s.setTrace i r).ecode = s.ecode := rfl
@[simp] theorem State.setTrace_start (s : State) (i : Fin 64) (r : TraceRecord) : (s.setTrace i r).start = s.start := rfl
@[simp] theorem State.setTrace_pending (s : State) (i : Fin 64) (r : TraceRecord) : (s.setTrace i r).pending = s.pending := rfl
@[simp] theorem State.setTrace_replies (s : State) (i : Fin 64) (r : TraceRecord) : (s.setTrace i r).replies = s.replies := rfl
@[simp] theorem State.setTrace_epoch (s : State) (i : Fin 64) (r : TraceRecord) : (s.setTrace i r).epoch = s.epoch := rfl
@[simp] theorem State.setTrace_config (s : State) (i : Fin 64) (r : TraceRecord) : (s.setTrace i r).config = s.config := rfl

@[simp] theorem State.setBlock_blk (s : State) (m : Memory) (n : Nat) : (s.setBlock m n).blk = m := rfl
@[simp] theorem State.setBlock_len (s : State) (m : Memory) (n : Nat) : (s.setBlock m n).len = n := rfl
@[simp] theorem State.setBlock_w (s : State) (m : Memory) (n : Nat) : (s.setBlock m n).w = s.w := rfl
@[simp] theorem State.setBlock_a (s : State) (m : Memory) (n : Nat) : (s.setBlock m n).a = s.a := rfl
@[simp] theorem State.setBlock_b (s : State) (m : Memory) (n : Nat) : (s.setBlock m n).b = s.b := rfl
@[simp] theorem State.setBlock_c (s : State) (m : Memory) (n : Nat) : (s.setBlock m n).c = s.c := rfl
@[simp] theorem State.setBlock_d (s : State) (m : Memory) (n : Nat) : (s.setBlock m n).d = s.d := rfl
@[simp] theorem State.setBlock_e (s : State) (m : Memory) (n : Nat) : (s.setBlock m n).e = s.e := rfl
@[simp] theorem State.setBlock_f (s : State) (m : Memory) (n : Nat) : (s.setBlock m n).f = s.f := rfl
@[simp] theorem State.setBlock_g (s : State) (m : Memory) (n : Nat) : (s.setBlock m n).g = s.g := rfl
@[simp] theorem State.setBlock_h (s : State) (m : Memory) (n : Nat) : (s.setBlock m n).h = s.h := rfl
@[simp] theorem State.setBlock_t1 (s : State) (m : Memory) (n : Nat) : (s.setBlock m n).t1 = s.t1 := rfl
@[simp] theorem State.setBlock_t2 (s : State) (m : Memory) (n : Nat) : (s.setBlock m n).t2 = s.t2 := rfl
@[simp] theorem State.setBlock_hash (s : State) (m : Memory) (n : Nat) : (s.setBlock m n).hash = s.hash := rfl
@[simp] theorem State.setBlock_trace (s : State) (m : Memory) (n : Nat) : (s.setBlock m n).trace = s.trace := rfl
@[simp] theorem State.setBlock_seq (s : State) (m : Memory) (n : Nat) : (s.setBlock m n).seq = s.seq := rfl
@[simp] theorem State.setBlock_valid (s : State) (m : Memory) (n : Nat) : (s.setBlock m n).valid = s.valid := rfl
@[simp] theorem State.setBlock_err (s : State) (m : Memory) (n : Nat) : (s.setBlock m n).err = s.err := rfl
@[simp] theorem State.setBlock_ecode (s : State) (m : Memory) (n : Nat) : (s.setBlock m n).ecode = s.ecode := rfl
@[simp] theorem State.setBlock_start (s : State) (m : Memory) (n : Nat) : (s.setBlock m n).start = s.start := rfl
@[simp] theorem State.setBlock_pending (s : State) (m : Memory) (n : Nat) : (s.setBlock m n).pending = s.pending := rfl
@[simp] theorem State.setBlock_replies (s : State) (m : Memory) (n : Nat) : (s.setBlock m n).replies = s.replies := rfl
@[simp] theorem State.setBlock_epoch (s : State) (m : Memory) (n : Nat) : (s.setBlock m n).epoch = s.epoch + 1 := rfl
@[simp] theorem State.setBlock_config (s : State) (m : Memory) (n : Nat) : (s.setBlock m n).config = s.config := rfl

@[simp] theorem State.dropResults_blk (s : State) : s.dropResults.blk = s.blk := rfl
@[simp] theorem State.dropResults_len (s : State) : s.dropResults.len = s.len := rfl
@[simp] theorem State.dropResults_w (s : State) : s.dropResults.w = Vector.replicate 64 none := rfl
@[simp] theorem State.dropResults_a (s : State) : s.dropResults.a = none := rfl
@[simp] theorem State.dropResults_b (s : State) : s.dropResults.b = none := rfl
@[simp] theorem State.dropResults_c (s : State) : s.dropResults.c = none := rfl
@[simp] theorem State.dropResults_d (s : State) : s.dropResults.d = none := rfl
@[simp] theorem State.dropResults_e (s : State) : s.dropResults.e = none := rfl
@[simp] theorem State.dropResults_f (s : State) : s.dropResults.f = none := rfl
@[simp] theorem State.dropResults_g (s : State) : s.dropResults.g = none := rfl
@[simp] theorem State.dropResults_h (s : State) : s.dropResults.h = none := rfl
@[simp] theorem State.dropResults_t1 (s : State) : s.dropResults.t1 = none := rfl
@[simp] theorem State.dropResults_t2 (s : State) : s.dropResults.t2 = none := rfl
@[simp] theorem State.dropResults_hash (s : State) : s.dropResults.hash = Vector.replicate 8 none := rfl
@[simp] theorem State.dropResults_trace (s : State) : s.dropResults.trace = Vector.replicate 64 none := rfl
@[simp] theorem State.dropResults_seq (s : State) : s.dropResults.seq = s.seq := rfl
@[simp] theorem State.dropResults_valid (s : State) : s.dropResults.valid = s.valid := rfl
@[simp] theorem State.dropResults_err (s : State) : s.dropResults.err = s.err := rfl
@[simp] theorem State.dropResults_ecode (s : State) : s.dropResults.ecode = s.ecode := rfl
@[simp] theorem State.dropResults_start (s : State) : s.dropResults.start = s.start := rfl
@[simp] theorem State.dropResults_pending (s : State) : s.dropResults.pending = s.pending := rfl
@[simp] theorem State.dropResults_replies (s : State) : s.dropResults.replies = s.replies := rfl
@[simp] theorem State.dropResults_epoch (s : State) : s.dropResults.epoch = s.epoch + 1 := rfl
@[simp] theorem State.dropResults_config (s : State) : s.dropResults.config = s.config := rfl

@[simp] theorem State.reply_blk (s : State) (r : Reply) : (s.reply r).blk = s.blk := rfl
@[simp] theorem State.reply_len (s : State) (r : Reply) : (s.reply r).len = s.len := rfl
@[simp] theorem State.reply_w (s : State) (r : Reply) : (s.reply r).w = s.w := rfl
@[simp] theorem State.reply_a (s : State) (r : Reply) : (s.reply r).a = s.a := rfl
@[simp] theorem State.reply_b (s : State) (r : Reply) : (s.reply r).b = s.b := rfl
@[simp] theorem State.reply_c (s : State) (r : Reply) : (s.reply r).c = s.c := rfl
@[simp] theorem State.reply_d (s : State) (r : Reply) : (s.reply r).d = s.d := rfl
@[simp] theorem State.reply_e (s : State) (r : Reply) : (s.reply r).e = s.e := rfl
@[simp] theorem State.reply_f (s : State) (r : Reply) : (s.reply r).f = s.f := rfl
@[simp] theorem State.reply_g (s : State) (r : Reply) : (s.reply r).g = s.g := rfl
@[simp] theorem State.reply_h (s : State) (r : Reply) : (s.reply r).h = s.h := rfl
@[simp] theorem State.reply_t1 (s : State) (r : Reply) : (s.reply r).t1 = s.t1 := rfl
@[simp] theorem State.reply_t2 (s : State) (r : Reply) : (s.reply r).t2 = s.t2 := rfl
@[simp] theorem State.reply_hash (s : State) (r : Reply) : (s.reply r).hash = s.hash := rfl
@[simp] theorem State.reply_trace (s : State) (r : Reply) : (s.reply r).trace = s.trace := rfl
@[simp] theorem State.reply_seq (s : State) (r : Reply) : (s.reply r).seq = s.seq := rfl
@[simp] theorem State.reply_valid (s : State) (r : Reply) : (s.reply r).valid = s.valid := rfl
@[simp] theorem State.reply_err (s : State) (r : Reply) : (s.reply r).err = s.err := rfl
@[simp] theorem State.reply_ecode (s : State) (r : Reply) : (s.reply r).ecode = s.ecode := rfl
@[simp] theorem State.reply_start (s : State) (r : Reply) : (s.reply r).start = s.start := rfl
@[simp] theorem State.reply_pending (s : State) (r : Reply) : (s.reply r).pending = s.pending := rfl
@[simp] theorem State.reply_replies (s : State) (r : Reply) : (s.reply r).replies = r :: s.replies := rfl
@[simp] theorem State.reply_epoch (s : State) (r : Reply) : (s.reply r).epoch = s.epoch := rfl
@[simp] theorem State.reply_config (s : State) (r : Reply) : (s.reply r).config = s.config := rfl

@[simp] theorem hostReset_blk (s : State) : (hostReset s).blk = [] := rfl
@[simp] theorem hostReset_len (s : State) : (hostReset s).len = 0 := rfl
@[simp] theorem hostReset_w (s : State) : (hostReset s).w = Vector.replicate 64 none := rfl
@[simp] theorem hostReset_a (s : State) : (hostReset s).a = none := rfl
@[simp] theorem hostReset_b (s : State) : (hostReset s).b = none := rfl
@[simp] theorem hostReset_c (s : State) : (hostReset s).c = none := rfl
@[simp] theorem hostReset_d (s : State) : (hostReset s).d = none := rfl
@[simp] theorem hostReset_e (s : State) : (hostReset s).e = none := rfl
@[simp] theorem hostReset_f (s : State) : (hostReset s).f = none := rfl
@[simp] theorem hostReset_g (s : State) : (hostReset s).g = none := rfl
@[simp] theorem hostReset_h (s : State) : (hostReset s).h = none := rfl
@[simp] theorem hostReset_t1 (s : State) : (hostReset s).t1 = none := rfl
@[simp] theorem hostReset_t2 (s : State) : (hostReset s).t2 = none := rfl
@[simp] theorem hostReset_hash (s : State) : (hostReset s).hash = Vector.replicate 8 none := rfl
@[simp] theorem hostReset_trace (s : State) : (hostReset s).trace = Vector.replicate 64 none := rfl
@[simp] theorem hostReset_seq (s : State) : (hostReset s).seq = 0 := rfl
@[simp] theorem hostReset_valid (s : State) : (hostReset s).valid = false := rfl
@[simp] theorem hostReset_err (s : State) : (hostReset s).err = false := rfl
@[simp] theorem hostReset_ecode (s : State) : (hostReset s).ecode = 0 := rfl
@[simp] theorem hostReset_start (s : State) : (hostReset s).start = false := rfl
@[simp] theorem hostReset_pending (s : State) : (hostReset s).pending = s.pending := rfl
@[simp] theorem hostReset_replies (s : State) : (hostReset s).replies = s.replies := rfl
@[simp] theorem hostReset_epoch (s : State) : (hostReset s).epoch = s.epoch + 1 := rfl
@[simp] theorem hostReset_config (s : State) : (hostReset s).config = s.config := rfl

end Sys2Proof.Machine
end

