-- ==== Sys2Proof/Laws/Ops.lean ====
section
/-! SUPPORT. What the shared operations do, said once: a read of an element that holds a value, a read after a write,
taking InvalidInput, accepting a start, loading a block. -/

namespace Sys2Proof.Machine

theorem State.readBlk_of_some {s : State} {j : Fin 64} {v : Byte} (h : s.blk.read j.val = some v) :
    s.readBlk j = v := by simp [State.readBlk, h]

theorem State.readW_of_some {s : State} {i : Fin 64} {v : Word} (h : s.w[i] = some v) : s.readW i = v := by
  simp [State.readW, h]

theorem State.readH_of_some {s : State} {k : Fin 8} {v : Word} (h : s.hash[k] = some v) : s.readH k = v := by
  simp [State.readH, h]

theorem State.readRegs_of_some {s : State} {r : WorkingRegs} (ha : s.a = some r.a) (hb : s.b = some r.b)
    (hc : s.c = some r.c) (hd : s.d = some r.d) (he : s.e = some r.e) (hf : s.f = some r.f) (hg : s.g = some r.g)
    (hh : s.h = some r.h) : s.readRegs = r := by
  simp [State.readRegs, ha, hb, hc, hd, he, hf, hg, hh]

theorem State.readHash_of_some {s : State} {v : Vector Word 8} (h : ∀ k : Fin 8, s.hash[k] = some v[k]) :
    s.readHash = v := by
  refine Vector.ext fun i hi => ?_
  have hk := State.readH_of_some (h ⟨i, hi⟩)
  interval_cases i <;> exact hk

theorem State.setW_at (s : State) (i j : Fin 64) (v : Word) :
    (s.setW i v).w[j] = if j = i then some v else s.w[j] := by
  simp [Vector.getElem_set, Fin.ext_iff, eq_comm]

theorem State.setTrace_at (s : State) (i j : Fin 64) (r : TraceRecord) :
    (s.setTrace i r).trace[j] = if j = i then some r else s.trace[j] := by
  simp [Vector.getElem_set, Fin.ext_iff, eq_comm]

theorem State.setHash_at (s : State) (v : Vector Word 8) (k : Fin 8) : (s.setHash v).hash[k] = some v[k] := by
  fin_cases k <;> rfl

/-- Taking InvalidInput writes ERR, ECODE and SEQ and nothing else. -/
theorem State.raiseInvalidInput_eq (s : State) :
    s.raiseInvalidInput = { s with err := true, ecode := ecodeInvalidInput, seq := encode .erh } := rfl

/-- Accepting a start clears the status, leaves no result, and goes to CHECK; BLK, LEN and the host's side stay. -/
theorem State.acceptStart_eq (s : State) :
    s.acceptStart = { s.dropResults with valid := false, err := false, ecode := ecodeNone, seq := encode .chk } := rfl

/-- Waiting in a phase, without a start: SEQ only. -/
theorem awaitStart_idle (p : Phase) (s : State) (h : s.start = false) : awaitStart p s = s.goto p 0 := by
  simp [awaitStart, h]

/-- Waiting in a phase, with a start. -/
theorem awaitStart_start (p : Phase) (s : State) (h : s.start = true) : awaitStart p s = s.acceptStart := by
  simp [awaitStart, h]

end Sys2Proof.Machine
end

