-- ==== Sys2Proof/Laws/PerInstr.lean ====
section
/-! SUPPORT. The family EncodeFitsRow: the word an instruction encodes to has the mask and match of its row of the
opcode table (spec/30_encoding.md R48). -/

namespace Sys2Proof.Laws.EncodeFitsRow

/-- `SEQ and mask = match` for the word `i` encodes to. -/
abbrev Statement (i : Instr) : Prop := encode i &&& rowMask i = rowMatch i

theorem wait : Statement .wait := by decide

theorem chk : Statement .chk := by decide

theorem ldw (j : Fin 16) : Statement (.ldw j) := by revert j; decide

theorem exp (i : Fin 64) : Statement (.exp i) := by revert i; decide

theorem ini : Statement .ini := by decide

theorem rnd (i : Fin 64) : Statement (.rnd i) := by revert i; decide

theorem fin : Statement .fin := by decide

theorem hlt : Statement .hlt := by decide

theorem erh : Statement .erh := by decide

end Sys2Proof.Laws.EncodeFitsRow
end

