-- ==== Sys2Proof/Laws/Step.lean ====
section
/-! SUPPORT. Everything a step can do, said once: a transaction of the host, or the micro-operation SEQ selects. -/

namespace Sys2Proof.Machine

/-- The sequencer's turn changes only the host's side of the state. -/
theorem turnOf_sequencer {s s' : State} (h : turnOf s = .sequencer s') :
    s' = { s with pending := s'.pending, start := s'.start } := by
  unfold turnOf at h
  split at h <;> simp only [Turn.sequencer.injEq, reduceCtorEq] at h
  all_goals subst h; rfl

/-- The host's turn is its next move, a transaction other than H_START. -/
theorem turnOf_host {s s' : State} (h : turnOf s = .host s') :
    ∃ t rest, s.pending = .act t :: rest ∧ t ≠ .start ∧ s' = transact t { s with pending := rest } := by
  unfold turnOf at h
  split at h <;> simp only [Turn.host.injEq, reduceCtorEq] at h
  rename_i t rest hp hne
  exact ⟨t, rest, hne, fun ht => hp (by rw [ht]), h.symm⟩

/-- A transaction other than H_START loads, resets, or hands the host an answer. -/
theorem transact_cases {t : Transaction} (s : State) (h : t ≠ .start) :
    (∃ bytes, t = .load bytes ∧ transact t s = hostLoad bytes s) ∨ (t = .reset ∧ transact t s = hostReset s) ∨
      ∃ r, transact t s = s.reply r := by
  cases t with
  | load bytes => exact .inl ⟨bytes, rfl, rfl⟩
  | reset => exact .inr (.inl ⟨rfl, rfl⟩)
  | start => exact absurd rfl h
  | readStatus => exact .inr (.inr ⟨_, rfl⟩)
  | readW => exact .inr (.inr ⟨_, rfl⟩)
  | readTrace => exact .inr (.inr ⟨_, rfl⟩)
  | readRegs => exact .inr (.inr ⟨_, rfl⟩)
  | readHash => exact .inr (.inr ⟨_, rfl⟩)
  | readDigest => exact .inr (.inr ⟨_, rfl⟩)
  | readBlk => exact .inr (.inr ⟨_, rfl⟩)

/-- If a micro-operation's outcome with its start input ended is a next state, so is its outcome. -/
theorem dropStart_next {o : Host.Outcome State Fault Refusal} {t : State} (h : dropStart o = .next t) :
    ∃ u, o = .next u ∧ t = { u with start := false } := by
  cases o with
  | next u => exact ⟨u, rfl, by simpa [dropStart, eq_comm] using h⟩
  | fault r => cases r
  | refused r => simp [dropStart] at h

/-- If a step answers a next state, the host did a transaction or the sequencer the micro-operation of SEQ. -/
theorem step_next {s t : State} (h : step s = .next t) :
    (∃ x rest, s.pending = .act x :: rest ∧ x ≠ .start ∧ t = transact x { s with pending := rest }) ∨
      ∃ s' i u, turnOf s = .sequencer s' ∧ decode s.seq = .ok i ∧ exec i s' = .next u ∧
        t = { u with start := false } := by
  unfold step at h
  split at h
  · rename_i s' hs
    obtain ⟨x, rest, hp, hx, rfl⟩ := turnOf_host hs
    exact .inl ⟨x, rest, hp, hx, by simpa using h.symm⟩
  · rename_i s' hs
    have hseq : s'.seq = s.seq := by rw [turnOf_sequencer hs]
    unfold runSequencer at h
    split at h
    · rename_i i hi
      obtain ⟨u, hu, ht⟩ := dropStart_next h
      exact .inr ⟨s', i, u, hs, hseq ▸ hi, hu, ht⟩
    · cases h

/-- No step ends in a fault: the type has no reason (60 R125). -/
theorem step_not_fault (s : State) (r : Fault) : step s ≠ .fault r := by cases r

end Sys2Proof.Machine
end

