-- ==== Sys2Proof/Tests/Slice0.lean ====
section
/-! SUPPORT. The model's own tests, every expected value from spec/95_test_vectors.md or written out from the spec's
encodings, and for every statement with hypotheses a witness that meets them all. -/

namespace Sys2Proof.Tests

open Sys2Proof.Machine

/-! ### Small states -/

/-- The outcome is a next state with this property. -/
def ends (o : Host.Outcome State Fault Refusal) (p : State → Bool) : Bool :=
  match o with
  | .next t => p t
  | .fault _ => false
  | .refused _ => false

/-- Reset, with SEQ set. -/
def at_ (q : BitVec 10) : State := { State.reset with seq := q }

/-- Reset, with SEQ set, after an H_LOAD of these bytes. -/
def loaded (q : BitVec 10) (bytes : List Byte) : State := { hostLoad bytes State.reset with seq := q }

/-- The 64-byte block of S1 (95 part 1). -/
def blockS1 : List Byte :=
  [0x02, 0x79, 0xbe, 0x66, 0x7e, 0xf9, 0xdc, 0xbb, 0xac, 0x55, 0xa0, 0x62, 0x95, 0xce, 0x87, 0x0b] ++
  [0x07, 0x02, 0x9b, 0xfc, 0xdb, 0x2d, 0xce, 0x28, 0xd9, 0x59, 0xf2, 0x81, 0x5b, 0x16, 0xf8, 0x17] ++
  [0x98, 0x80, 0x00, 0x00, 0x00, 0x00, 0x00, 0x00, 0x00, 0x00, 0x00, 0x00, 0x00, 0x00, 0x00, 0x00] ++
  [0x00, 0x00, 0x00, 0x00, 0x00, 0x00, 0x00, 0x00, 0x00, 0x00, 0x00, 0x00, 0x00, 0x00, 0x01, 0x08]

/-- The registers of V2.7 (g). -/
def markers : WorkingRegs := ⟨0x0a, 0x0b, 0x0c, 0x0d, 0x00, 0x0f, 0x10, 0x11⟩

/-- A block of 64 zero bytes, loaded, waiting in IDLE with a start presented. -/
def zeroBlock : Vector Byte 64 := Vector.replicate 64 0

def started : State := { loaded 0x000 (List.replicate 64 0) with start := true }

/-- DONE with every store holding the results of a block. -/
def doneWith (block : Vector Byte 64) : State :=
  let r := compressSchedule State.reset.config.k State.reset.config.iv (scheduleOf block)
  { State.reset with
    seq := 0x1C0, valid := true, w := r.schedule.map some, trace := r.trace.map some, hash := r.out.map some
    a := some r.regs.a, b := some r.regs.b, c := some r.regs.c, d := some r.regs.d
    e := some r.regs.e, f := some r.regs.f, g := some r.regs.g, h := some r.regs.h
    t1 := some r.trace[63].t1, t2 := some r.trace[63].t2 }

/-! ### Well-formedness and decoding (30 R48, R49; 95 V2.13) -/

theorem test_wf_refuses_exp_15 : ¬WellFormed (.exp 15) := by decide

theorem test_wf_accepts_exp_16 : WellFormed (.exp 16) := by decide

theorem test_decode_wait : decode 0b0000000000 = .ok .wait := by decide

theorem test_decode_chk : decode 0b0001000000 = .ok .chk := by decide

theorem test_decode_ldw : decode 0b0010001010 = .ok (.ldw 10) := by decide

theorem test_decode_exp : decode 0b0011111111 = .ok (.exp 63) := by decide

theorem test_decode_ini : decode 0b0100000000 = .ok .ini := by decide

theorem test_decode_rnd : decode 0b0101001010 = .ok (.rnd 10) := by decide

theorem test_decode_fin : decode 0b0110000000 = .ok .fin := by decide

theorem test_decode_hlt : decode 0b0111000000 = .ok .hlt := by decide

theorem test_decode_erh : decode 0b1000000000 = .ok .erh := by decide

theorem test_reserved_load_16 : decode 0x090 = .error (.index 2 16) := by decide

theorem test_reserved_expand_15 : decode 0x0CF = .error (.index 3 15) := by decide

theorem test_reserved_phase_9 : decode 0x240 = .error (.phase 9) := by decide

theorem test_table_word_too_wide : decodeTableWord 16 0x400 = none := by decide

theorem test_fetch_word_runs : ends (step (State.reset.withFetchWord 16 0x140)) (fun t => decide (t.seq = 0x141)) := by
  decide

/-! ### Word functions (95 V2.2 to V2.6) -/

theorem test_rotr_7 : rotr 0x12345678 7 = 0xf02468ac := by decide

theorem test_sigma0 : sigma0 0x7ef9dcbb = 0x0e0c1790 := by decide

theorem test_sigma1 : sigma1 0x12345678 = 0xa1f78649 := by decide

theorem test_bigSigma0 : bigSigma0 0x6a09e667 = 0xce20b47e := by decide

theorem test_bigSigma1 : bigSigma1 0x510e527f = 0x3587272b := by decide

theorem test_ch : ch 0xffff0000 0x12345678 0x9abcdef0 = 0x1234def0 := by decide

theorem test_maj : maj 0xffff0000 0x12345678 0x9abcdef0 = 0x9abc5670 := by decide

theorem test_be32 : be32 0x02 0x79 0xbe 0x66 = 0x0279be66 := by decide

theorem test_bytes32 : bytes32 0x0f715baf = [0x0f, 0x71, 0x5b, 0xaf] := by decide

/-! ### The micro-operations -/

/-- 95 V2.10, LEN = 63. -/
theorem test_chk_63 : ends (exec .chk { at_ 0x040 with len := 63 })
    (fun t => t.err && decide (t.ecode = 1) && decide (t.seq = 0x200) && decide (t.hash[0] = none)) := by decide

/-- 95 V2.10, LEN = 64. -/
theorem test_chk_64 : ends (exec .chk { at_ 0x040 with len := 64 })
    (fun t => decide (t.hash[0] = some 0x6a09e667) && decide (t.hash[7] = some 0x5be0cd19) &&
      decide (t.seq = 0x080) && !t.err) := by decide

/-- 95 V2.8, LDW 0. -/
theorem test_ldw_0 : ends (exec (.ldw 0) (loaded 0x080 blockS1))
    (fun t => decide (t.w[0] = some 0x0279be66) && decide (t.seq = 0x081)) := by decide

/-- 95 V2.8, LDW 15. -/
theorem test_ldw_15 : ends (exec (.ldw 15) (loaded 0x08F blockS1))
    (fun t => decide (t.w[15] = some 0x00000108) && decide (t.seq = 0x0D0)) := by decide

/-- 95 V2.9, V1 EXP 17: W[15], W[10], W[2], W[1]. -/
theorem test_exp_17 : ends (exec (.exp 17)
      ((((at_ 0x0D1).setW 15 0x00000108).setW 10 0).setW 2 0xac55a062 |>.setW 1 0x7ef9dcbb))
    (fun t => decide (t.w[17] = some 0x38699114) && decide (t.seq = 0x0D2)) := by decide

/-- 95 V2.9, EXP 63 of the all-ff block. -/
theorem test_exp_63 : ends (exec (.exp 63)
      ((((at_ 0x0FF).setW 61 0x9694208c).setW 56 0x71b516d9).setW 48 0x7adc6145 |>.setW 47 0xa7a7b143))
    (fun t => decide (t.w[63] = some 0x4bceaf09) && decide (t.seq = 0x100)) := by decide

/-- 95 V2.11. -/
theorem test_ini : ends (exec .ini ((at_ 0x100).setHash Config.standardIV))
    (fun t => decide (t.a = some 0x6a09e667) && decide (t.d = some 0xa54ff53a) && decide (t.h = some 0x5be0cd19) &&
      decide (t.seq = 0x140)) := by decide

/-- 95 V2.7 (d): V1 round 0, registers = IV, W[0] = 0279be66. -/
theorem test_rnd_0 : ends (exec (.rnd 0) (((at_ 0x140).setRegs (regsOf Config.standardIV)).setW 0 0x0279be66))
    (fun t => decide (t.a = some 0xfe8246b3) && decide (t.e = some 0x9b41a108) && decide (t.t1 = some 0xf5f1abce) &&
      decide (t.t2 = some 0x08909ae5) && decide (t.seq = 0x141)) := by decide

/-- 95 V2.7 (f): V1 round 63, registers of row 62. -/
theorem test_rnd_63 : ends (exec (.rnd 63) (((at_ 0x17F).setRegs ⟨0xa1e4804e, 0xed09697d, 0x84956dbd, 0x1ba58008,
      0x209853cb, 0xe12f882a, 0xefba383b, 0x911a4649⟩).setW 63 0x674f76d1))
    (fun t => decide (t.trace[63] = some ⟨63, 0x674f76d1, 0xa5677548, 0xa1e4804e, 0xed09697d, 0x84956dbd, 0xe37a7623,
      0x209853cb, 0xe12f882a, 0xefba383b, 0xc7d4f61b, 0xdd927f2d⟩) && decide (t.seq = 0x180)) := by decide

/-- 95 V1, the table of the output words, k = 0 and k = 5. -/
theorem test_fin : ends (exec .fin (((at_ 0x180).setHash Config.standardIV).setRegs ⟨0xa5677548, 0xa1e4804e, 0xed09697d,
      0x84956dbd, 0xe37a7623, 0x209853cb, 0xe12f882a, 0xefba383b⟩))
    (fun t => decide (t.hash[0] = some 0x0f715baf) && decide (t.hash[5] = some 0xbb9dbc57) && t.valid &&
      decide (t.seq = 0x1C0)) := by decide

/-- 44 R103: the start is accepted whatever LEN is. -/
theorem test_wait_start : ends (exec .wait { at_ 0x000 with start := true })
    (fun t => decide (t.seq = 0x040)) := by decide

theorem test_wait_stays : ends (exec .wait (at_ 0x000)) (fun t => decide (t = at_ 0x000)) := by decide

/-- 44 R104: VALID falls at once. -/
theorem test_hlt_start : ends (exec .hlt { at_ 0x1C0 with valid := true, start := true, a := some 7 })
    (fun t => !t.valid && decide (t.a = none) && decide (t.seq = 0x040)) := by decide

theorem test_hlt_stays : ends (exec .hlt { at_ 0x1C0 with valid := true, a := some 7 })
    (fun t => t.valid && decide (t.a = some 7) && decide (t.seq = 0x1C0)) := by decide

/-- 44 R105. -/
theorem test_erh_start : ends (exec .erh { at_ 0x200 with err := true, ecode := 1, start := true })
    (fun t => !t.err && decide (t.ecode = 0) && decide (t.seq = 0x040)) := by decide

theorem test_erh_stays : ends (exec .erh { at_ 0x200 with err := true, ecode := 1 })
    (fun t => t.err && decide (t.ecode = 1) && decide (t.seq = 0x200)) := by decide

/-! ### The host interface (95 V2.14, V2.15) -/

theorem test_load_320 : lengthOf State.reset.config.lenw 320 = 255 := by decide

theorem test_load_320_lenw_7 : lengthOf 7 320 = 127 := by decide

theorem test_load_63_leaves_byte_63 : (hostLoad (List.replicate 63 1) State.reset).blk.read 63 = none := by decide

theorem test_status_done : State.statusWord { at_ 0x1C0 with valid := true, len := 64 } = 0x1C0840 := by decide

theorem test_status_error : State.statusWord { at_ 0x200 with err := true, ecode := 1, len := 63 } = 0x20053F := by
  decide

/-- 10 R12, LENW = 12. -/
theorem test_load_320_lenw_12 : lengthOf 12 320 = 320 := by decide

/-- 45 R116: what the host reads of the status after reset. -/
theorem test_read_status : ends (step { State.reset with pending := [.act .readStatus] })
    (fun t => decide (t.replies = [.status 8 0])) := by decide

/-- 95 P4 step 3: a start presented to RND is not remembered. -/
theorem test_start_while_busy : ends (step { at_ 0x14A with pending := [.act .start] })
    (fun t => decide (t.seq = 0x14B) && !t.start) := by decide

theorem test_pad_abc : (padMessage [0x61, 0x62, 0x63]).map (fun b => (b.take 5, b.drop 62)) =
    some ([0x61, 0x62, 0x63, 0x80, 0x00], [0x00, 0x18]) := by decide

/-! ### Witnesses: concrete values that meet all hypotheses of a statement together -/

theorem witness_DecodeOfEncode : WellFormed (.exp 16) ∧ WellFormed (.exp 63) := by decide

theorem witness_EncodeOfDecode : decode 0x0D0 = .ok (.exp 16) := by decide

theorem witness_ReservedSeqIsRefused : decode (at_ 0x3FF).seq = .error (.phase 15) ∧ (at_ 0x3FF).pending = [] ∧
    State.pending { at_ 0x3FF with pending := [.quiet] } = .quiet :: [] ∧
    State.pending { at_ 0x3FF with pending := [.act .start] } = .act .start :: [] := by decide

theorem witness_RotrMovesBits : (1 ≤ 1 ∧ 1 ≤ 31 ∧ 31 < 32) ∧ (1 ≤ 31 ∧ 31 ≤ 31 ∧ 0 < 32) := by decide

theorem witness_ShrIsFloorDivision : ∀ n ∈ [3, 10], n = 3 ∨ n = 10 := by decide

theorem witness_SigmaFunctionsBitByBit : 0 < 32 ∧ 31 < 32 := by decide

theorem witness_ChSelectsMajVotes : 0 < 32 ∧ 31 < 32 := by decide

theorem witness_ChkChecksLengthAndLoadsIV :
    State.len { at_ 0x040 with len := 64 } = 64 ∧ State.len { at_ 0x040 with len := 63 } ≠ 64 := by decide

theorem witness_LdwLoadsBigEndianWord :
    (loaded 0x08F blockS1).blk.read (4 * (15 : Fin 16).val) = some 0x00 ∧
      (loaded 0x08F blockS1).blk.read (4 * (15 : Fin 16).val + 1) = some 0x00 ∧
      (loaded 0x08F blockS1).blk.read (4 * (15 : Fin 16).val + 2) = some 0x01 ∧
      (loaded 0x08F blockS1).blk.read (4 * (15 : Fin 16).val + 3) = some 0x08 := by decide

/-- EXP at both ends of its range. -/
def scheduleRow : State :=
  (((((((at_ 0x0D0).setW 14 1).setW 9 2).setW 1 3).setW 0 4).setW 61 5).setW 56 6).setW 48 7 |>.setW 47 8

theorem witness_ExpDerivesWordByRecurrence :
    (16 ≤ (16 : Fin 64).val ∧ scheduleRow.w[16 - 2]? = some (some 1) ∧ scheduleRow.w[16 - 7]? = some (some 2) ∧
      scheduleRow.w[16 - 15]? = some (some 3) ∧ scheduleRow.w[16 - 16]? = some (some 4)) ∧
    (16 ≤ (63 : Fin 64).val ∧ scheduleRow.w[63 - 2]? = some (some 5) ∧ scheduleRow.w[63 - 7]? = some (some 6) ∧
      scheduleRow.w[63 - 15]? = some (some 7) ∧ scheduleRow.w[63 - 16]? = some (some 8)) := by decide

theorem witness_ExpBelowSixteenIsRefused : (0 : Fin 64).val < 16 ∧ (15 : Fin 64).val < 16 := by decide

theorem witness_IniCopiesHashToRegs : ((at_ 0x100).setHash Config.standardIV).holdsHash Config.standardIV := by decide

theorem witness_RndDoesOneRound :
    (((at_ 0x140).setRegs markers).setW 0 9).holdsRegs markers ∧ (((at_ 0x140).setRegs markers).setW 0 9).w[0] = some 9 ∧
      (((at_ 0x17F).setRegs markers).setW 63 9).holdsRegs markers ∧
      (((at_ 0x17F).setRegs markers).setW 63 9).w[63] = some 9 := by decide

theorem witness_FinAddsRegsIntoHash :
    (((at_ 0x180).setHash Config.standardIV).setRegs markers).holdsHash Config.standardIV ∧
      (((at_ 0x180).setHash Config.standardIV).setRegs markers).holdsRegs markers := by decide

theorem witness_WaitingAcceptsStartOrStays :
    (waits .wait ∧ waits .hlt ∧ waits .erh) ∧ started.start = true ∧ State.reset.start = false :=
  ⟨⟨.inl rfl, .inr (.inl rfl), .inr (.inr rfl)⟩, rfl, rfl⟩

theorem witness_StepRunsSelectedMicroOperation :
    decode (at_ 0x140).seq = .ok (.rnd 0) ∧ (at_ 0x140).pending = [] ∧
      State.pending { at_ 0x140 with pending := [.quiet] } = .quiet :: [] ∧
      State.pending { at_ 0x140 with pending := [.act .start] } = .act .start :: [] := by decide

theorem witness_TransactionIsAStepOfItsOwn :
    State.pending { at_ 0 with pending := [.act (.load [1])] } = .act (.load [1]) :: [] ∧
      Transaction.load [1] ≠ .start := by decide

theorem witness_NextSeqFollowsTheTable : decode (at_ 0x17F).seq = .ok (.rnd 63) ∧ (at_ 0x17F).pending = [] ∧
    State.pending { at_ 0x17F with pending := [.quiet] } = .quiet :: [] ∧
    State.pending { at_ 0x17F with pending := [.act .start] } = .act .start :: [] := by decide

/-- A state of phase ERROR meets the invariant. -/
def failedState : State := { at_ 0x200 with err := true, ecode := 1 }

theorem failedState_inv : failedState.Inv := by
  refine ⟨by decide, by decide, by decide, ?_⟩
  show failedState.noResults
  decide

/-- A state of phase LOAD, at LDW 0, meets the invariant. -/
def loadState : State := (loaded 0x080 (List.replicate 64 0)).setHash Config.standardIV

theorem loadState_holdsBlock : loadState.holdsBlock zeroBlock := by decide

theorem loadState_inv : loadState.Inv := by
  refine ⟨by decide, by decide, by decide, ?_⟩
  show loadState.expanding 0
  exact ⟨zeroBlock, loadState_holdsBlock, by decide, by decide, by decide, by decide⟩

theorem witness_InvariantKeptByEveryStep : loadState.Inv ∧ ∃ t, step loadState = .next t := ⟨loadState_inv, _, rfl⟩

theorem witness_InvariantStatesAlwaysStep : failedState.Inv := failedState_inv

theorem witness_NoReadOfAnElementWithoutValue : loadState.Inv ∧ decode loadState.seq = .ok (.ldw 0) :=
  ⟨loadState_inv, by decide⟩

theorem witness_BlockStoreStaysCanonical : loadState.blk.wf ∧ ∃ t, step loadState = .next t := ⟨by decide, _, rfl⟩

theorem witness_OnlyFinSetsValid : ∃ t, step (at_ 0x180) = .next t ∧ (at_ 0x180).valid = false ∧ t.valid = true :=
  ⟨_, rfl, rfl, rfl⟩

theorem witness_OnlyChkRaisesInvalidInput : ∃ t, step (at_ 0x040) = .next t ∧ (at_ 0x040).err = false ∧ t.err = true :=
  ⟨_, rfl, rfl, rfl⟩

theorem witness_TraceRecordWrittenOnlyByItsRound :
    ∃ t r, step (at_ 0x140) = .next t ∧ t.trace[(0 : Fin 64)] = some r ∧ (at_ 0x140).trace[(0 : Fin 64)] ≠ some r :=
  ⟨_, _, rfl, rfl, by simp [at_, State.reset, State.resetOf]⟩

theorem witness_BlockFixedWhileBusy :
    loadState.busy = true ∧ (∃ t, step loadState = .next t) ∧ ∀ rest, loadState.pending ≠ .act .reset :: rest :=
  ⟨by decide, ⟨_, rfl⟩, by intro rest h; cases h⟩

theorem witness_ResultsStableWhileDone :
    (at_ 0x1C0).succeeded ∧ (∃ t, step (at_ 0x1C0) = .next t) ∧ (at_ 0x1C0).start = false ∧
      ∀ rest, (at_ 0x1C0).pending ≠ .act .start :: rest ∧ (at_ 0x1C0).pending ≠ .act .reset :: rest :=
  ⟨by decide, ⟨_, rfl⟩, rfl, fun _ => ⟨(fun h => nomatch h), (fun h => nomatch h)⟩⟩

/-- What a host may do after its H_START: a quiet move, a read, a load and a start that come while BUSY = 1. -/
def busyMoves : List HostMove := [.quiet, .act .readStatus, .act (.load [1]), .act .start]

/-- IDLE or DONE, a zero block loaded, the host about to start. -/
def ready (q : BitVec 10) : State :=
  { loaded q (List.replicate 64 0) with pending := .act .start :: busyMoves }

theorem ready_holdsBlock : (ready 0x000).holdsBlock zeroBlock ∧ (ready 0x1C0).holdsBlock zeroBlock := by decide

theorem witness_RunComputesCompress :
    (decode (ready 0x000).seq = .ok .wait ∧ waits .wait ∧ (ready 0x000).presents busyMoves ∧
      .act .reset ∉ busyMoves ∧ (ready 0x000).holdsBlock zeroBlock) ∧
    (decode started.seq = .ok .wait ∧ started.presents [] ∧ .act .reset ∉ ([] : List HostMove) ∧
      started.holdsBlock zeroBlock) :=
  ⟨⟨by decide, .inl rfl, .inl rfl, by decide, ready_holdsBlock.1⟩, by decide, .inr ⟨rfl, rfl, rfl⟩, by decide, by decide⟩

theorem witness_WrongLengthEndsInError :
    decode (at_ 0).seq = .ok .wait ∧ waits .wait ∧
      State.presents { at_ 0 with pending := .act .start :: busyMoves } busyMoves ∧ .act .reset ∉ busyMoves ∧
      (at_ 0).len ≠ 64 := ⟨by decide, .inl rfl, .inl rfl, by decide, by decide⟩

theorem witness_EqualBlocksGiveEqualResults :
    (decode (ready 0x000).seq = .ok .wait ∧ waits .wait ∧ (ready 0x000).presents busyMoves ∧
      .act .reset ∉ busyMoves ∧ (ready 0x000).holdsBlock zeroBlock) ∧
    (decode (ready 0x1C0).seq = .ok .hlt ∧ waits .hlt ∧ (ready 0x1C0).presents busyMoves ∧
      (ready 0x1C0).holdsBlock zeroBlock) ∧
    (ready 0x1C0).config.k = (ready 0x000).config.k ∧ (ready 0x1C0).config.iv = (ready 0x000).config.iv :=
  ⟨witness_RunComputesCompress.1, ⟨by decide, .inr (.inl rfl), .inl rfl, ready_holdsBlock.2⟩, rfl, rfl⟩

theorem witness_ConfigurationIsNeverWritten : ∃ t, step (ready 0x000) = .next t := ⟨_, rfl⟩

theorem witness_ScheduleIsGroupsThenRecurrence :
    ((14 : Fin 64).val + 2 = (16 : Fin 64).val ∧ (9 : Fin 64).val + 7 = (16 : Fin 64).val ∧
      (1 : Fin 64).val + 15 = (16 : Fin 64).val ∧ (0 : Fin 64).val + 16 = (16 : Fin 64).val) ∧
    ((61 : Fin 64).val + 2 = (63 : Fin 64).val ∧ (56 : Fin 64).val + 7 = (63 : Fin 64).val ∧
      (48 : Fin 64).val + 15 = (63 : Fin 64).val ∧ (47 : Fin 64).val + 16 = (63 : Fin 64).val) := by decide

theorem witness_FirstSixteenWordsDetermineBlock :
    ∀ j : Fin 16, (scheduleOf zeroBlock)[loadIndex j] = (scheduleOf zeroBlock)[loadIndex j] := fun _ => rfl

theorem witness_ReplayFromAnyRecordGivesTheNext :
    (1 : Fin 64).val = (0 : Fin 64).val + 1 ∧ (63 : Fin 64).val = (62 : Fin 64).val + 1 := by decide

theorem witness_ExpandScheduleRejectsWrongLength :
    zeroBlock.toList = List.replicate 64 0 ∧ (List.replicate 63 (0 : Byte)).length ≠ 64 ∧
      (List.replicate 65 (0 : Byte)).length ≠ 64 := by decide

theorem witness_StatusWordLayout : State.len { at_ 0 with len := 255 } < 2 ^ (at_ 0).config.lenw := by decide

theorem witness_InvariantAtReset : Config.legal {} ∧ Config.legal { lenw := 7 } := by decide

theorem witness_LengthIsSixtyFourOnlyForSixtyFourBytes : 7 ≤ 7 ∧ 7 ≤ State.reset.config.lenw := by decide

theorem witness_HostLoadStoresTheBlock :
    (at_ 0x14A).busy = true ∧ State.reset.busy = false ∧ 2 < min ([1, 2, 3] : List Byte).length 64 ∧
      min ([1, 2, 3] : List Byte).length 64 ≤ 3 := by decide

theorem witness_BusyLockIgnoresLoadAndStart : (at_ 0x14A).busy = true ∧ (at_ 0x200).busy = false ∧
    State.pending { at_ 0x14A with pending := [.act (.load [1])] } = .act (.load [1]) :: [] := by decide

theorem witness_ReadsReturnNothingBehindTheGate :
    State.reset.valid = false ∧ (at_ 0x14A).busy = true ∧ State.reset.len ≠ 64 := by decide

theorem doneWith_holdsResults (block : Vector Byte 64) : (doneWith block).holdsResults block := by
  refine ⟨fun k => ?_, fun k => ?_, ⟨rfl, rfl, rfl, rfl, rfl, rfl, rfl, rfl⟩, rfl, rfl, fun k => ?_⟩ <;>
    simp [doneWith]

theorem witness_ReadsReturnTheResults :
    (doneWith zeroBlock).valid = true ∧ (doneWith zeroBlock).holdsResults zeroBlock :=
  ⟨rfl, doneWith_holdsResults zeroBlock⟩

theorem witness_BlockReadReturnsTheBytes : started.busy = false ∧ started.holdsBlock zeroBlock :=
  ⟨by decide, witness_RunComputesCompress.2.2.2.2⟩

theorem witness_ResetAtAnyTime :
    State.pending { at_ 0x14A with pending := [.act .reset] } = .act .reset :: [] := by decide

theorem witness_PaddedBlockLayout :
    ([] : List Byte).length ≤ 55 ∧ (List.replicate 55 (0 : Byte)).length ≤ 55 ∧
      55 < (List.replicate 56 (0 : Byte)).length := by decide

theorem witness_InstancesDoNotInterfere :
    ∃ q, Platform.step [State.reset, at_ 0x180] ⟨1, by decide⟩ = .next q := ⟨_, rfl⟩

end Sys2Proof.Tests
end

/-! The configuration along a step (spec/00_scope.md R4, spec/10_state.md R23, spec/70_reset_and_hazards.md R140):
every shared operation, micro-operation and transaction leaves it, so every step does. -/

namespace Sys2Proof.Machine

@[simp] theorem State.raiseInvalidInput_config (s : State) : s.raiseInvalidInput.config = s.config := by
  simp [State.raiseInvalidInput]

@[simp] theorem State.acceptStart_config (s : State) : s.acceptStart.config = s.config := by
  simp [State.acceptStart]

@[simp] theorem awaitStart_config (p : Phase) (s : State) : (awaitStart p s).config = s.config := by
  cases hs : s.start with
  | false => simp [awaitStart_idle p s hs]
  | true => simp [awaitStart_start p s hs]

@[simp] theorem hostLoad_config (bytes : List Byte) (s : State) : (hostLoad bytes s).config = s.config := by
  unfold hostLoad
  split
  · rfl
  · simp

@[simp] theorem transact_config (x : Transaction) (s : State) : (transact x s).config = s.config := by
  by_cases hx : x = .start
  · subst hx; rfl
  · obtain ⟨bytes, -, ht⟩ | ⟨-, ht⟩ | ⟨r, ht⟩ := transact_cases s hx <;> simp [ht]

theorem turnOf_sequencer_config {s s' : State} (h : turnOf s = .sequencer s') : s'.config = s.config := by
  rw [turnOf_sequencer h]

/-- No micro-operation writes the configuration: RND only reads K, and CHK only reads IV (10 R21, R22). -/
theorem exec_config {i : Instr} {s u : State} (h : exec i s = .next u) : u.config = s.config := by
  cases i with
  | wait => cases h; exact awaitStart_config _ s
  | chk =>
    simp only [exec, execChk] at h
    split at h <;> cases h <;> simp
  | ldw j => cases h; split <;> simp
  | exp i =>
    simp only [exec, execExp] at h
    split at h
    · cases h; split <;> simp
    · cases h
  | ini => cases h; simp
  | rnd i => cases h; split <;> simp
  | fin => cases h; simp
  | hlt => cases h; exact awaitStart_config _ s
  | erh => cases h; exact awaitStart_config _ s

/-- A step is a transaction of the host or a micro-operation of the sequencer; neither writes the configuration. -/
theorem step_config {s t : State} (h : step s = .next t) : t.config = s.config := by
  obtain ⟨x, rest, -, -, rfl⟩ | ⟨s', i, u, hturn, -, hexec, rfl⟩ := step_next h
  · exact transact_config x _
  · calc u.config = s'.config := exec_config hexec
      _ = s.config := turnOf_sequencer_config hturn

/-- Settles O57, by the two kinds of step: the host's transactions and the sequencer's micro-operations. -/
theorem configurationIsNeverWritten : Obligations.ConfigurationIsNeverWritten :=
  fun _ _ => step_config

end Sys2Proof.Machine

/-! VALID along a step (spec/10_state.md R20, spec/43_finalize.md R95): the shared operations, the micro-operations but
FIN, and the transactions leave VALID or clear it. -/

namespace Sys2Proof.Machine

@[simp] theorem State.raiseInvalidInput_valid (s : State) : s.raiseInvalidInput.valid = s.valid := by
  simp [State.raiseInvalidInput]

@[simp] theorem State.acceptStart_valid (s : State) : s.acceptStart.valid = false := by
  simp [State.acceptStart]

/-- Waiting leaves VALID, but for an accepted start, which clears it (44 R103). -/
theorem awaitStart_valid (p : Phase) (s : State) :
    (awaitStart p s).valid = s.valid ∨ (awaitStart p s).valid = false := by
  cases hs : s.start with
  | false => simp [awaitStart_idle p s hs]
  | true => simp [awaitStart_start p s hs]

@[simp] theorem hostLoad_valid (bytes : List Byte) (s : State) : (hostLoad bytes s).valid = s.valid := by
  unfold hostLoad
  split
  · rfl
  · simp

/-- A transaction leaves VALID, but for H_RESET, which clears it. -/
theorem transact_valid (x : Transaction) (s : State) :
    (transact x s).valid = s.valid ∨ (transact x s).valid = false := by
  by_cases hx : x = .start
  · subst hx; exact .inl rfl
  · obtain ⟨bytes, -, ht⟩ | ⟨-, ht⟩ | ⟨r, ht⟩ := transact_cases s hx <;> simp [ht]

theorem turnOf_sequencer_valid {s s' : State} (h : turnOf s = .sequencer s') : s'.valid = s.valid := by
  rw [turnOf_sequencer h]

/-- A micro-operation other than FIN leaves VALID or clears it. -/
theorem exec_valid {i : Instr} {s u : State} (h : exec i s = .next u) (hi : i ≠ .fin) :
    u.valid = s.valid ∨ u.valid = false := by
  cases i with
  | wait => cases h; exact awaitStart_valid _ s
  | chk =>
    simp only [exec, execChk] at h
    split at h <;> cases h <;> simp
  | ldw j => cases h; split <;> simp
  | exp i =>
    simp only [exec, execExp] at h
    split at h
    · cases h; split <;> simp
    · cases h
  | ini => cases h; simp
  | rnd i => cases h; split <;> simp
  | fin => exact absurd rfl hi
  | hlt => cases h; exact awaitStart_valid _ s
  | erh => cases h; exact awaitStart_valid _ s

/-- Settles O29: a transaction does not set VALID, and of the micro-operations only FIN can. -/
theorem onlyFinSetsValid : Obligations.OnlyFinSetsValid := by
  intro s t h hs ht
  obtain ⟨x, rest, -, -, rfl⟩ | ⟨s', i, u, hturn, hdec, hexec, rfl⟩ := step_next h
  · have hx := transact_valid x { s with pending := rest }
    rw [ht] at hx
    simp [hs] at hx
  · have hs' : s'.valid = false := (turnOf_sequencer_valid hturn).trans hs
    have hu : u.valid = true := ht
    have hi : i = .fin := by
      by_contra hi
      have hv := exec_valid hexec hi
      simp [hs', hu] at hv
    rw [hdec, hi]

end Sys2Proof.Machine

/-! The state after reset (spec/10_state.md R26): no store holds a value, so the invariant holds in phase IDLE. -/

namespace Sys2Proof.Machine

@[simp] theorem State.resetOf_blk (c : Config) : (State.resetOf c).blk = [] := rfl
@[simp] theorem State.resetOf_len (c : Config) : (State.resetOf c).len = 0 := rfl
@[simp] theorem State.resetOf_seq (c : Config) : (State.resetOf c).seq = encode .wait := rfl
@[simp] theorem State.resetOf_valid (c : Config) : (State.resetOf c).valid = false := rfl
@[simp] theorem State.resetOf_err (c : Config) : (State.resetOf c).err = false := rfl
@[simp] theorem State.resetOf_ecode (c : Config) : (State.resetOf c).ecode = ecodeNone := rfl
@[simp] theorem State.resetOf_config (c : Config) : (State.resetOf c).config = c := rfl

theorem State.resetOf_noResults (c : Config) : (State.resetOf c).noResults := by
  simp [State.noResults, State.resetOf]

/-- In IDLE the data part of the invariant says that no result store holds a value. -/
theorem State.dataInv_iff_of_wait {s : State} (h : s.seq = encode .wait) : s.dataInv ↔ s.noResults := by
  have hdec : decode s.seq = .ok .wait := h ▸ rfl
  simp [State.dataInv, hdec]

/-- With VALID = 0 there is no DIGEST (10 R18). -/
theorem hostReadDigest_of_not_valid {s : State} (h : s.valid = false) : hostReadDigest s = none := by
  simp [hostReadDigest, hostReadHash, State.gated, h]

theorem State.resetOf_statusInv (c : Config) : (State.resetOf c).statusInv := by
  have hdone : encode .wait ≠ encode .hlt := by decide
  have herror : encode .wait ≠ encode .erh := by decide
  simp [State.statusInv, hdone, herror]

theorem State.resetOf_blockInv (c : Config) : (State.resetOf c).blockInv :=
  ⟨Memory.wf_nil, by simp⟩

theorem State.resetOf_lenInv {c : Config} (h : c.legal) : (State.resetOf c).lenInv :=
  ⟨h, Nat.two_pow_pos _⟩

theorem State.resetOf_inv {c : Config} (h : c.legal) : (State.resetOf c).Inv :=
  ⟨State.resetOf_statusInv c, State.resetOf_lenInv h, State.resetOf_blockInv c,
    (State.dataInv_iff_of_wait (State.resetOf_seq c)).2 (State.resetOf_noResults c)⟩

/-- Settles O25: the four parts of the invariant at reset; the default LENW = 8 is legal. -/
theorem invariantAtReset : Obligations.InvariantAtReset :=
  ⟨fun _ => State.resetOf_inv, State.resetOf_inv (by decide)⟩

/-- Settles O52: the fields by definition, DIGEST by the VALID gate. -/
theorem resetValuesAreTheSpecs : Obligations.ResetValuesAreTheSpecs :=
  ⟨rfl, fun c => ⟨rfl, rfl, rfl, rfl, rfl, fun _ => rfl, State.resetOf_noResults c,
    hostReadDigest_of_not_valid (State.resetOf_valid c), rfl⟩⟩

end Sys2Proof.Machine

/-! The recorded length (spec/10_state.md R12): 64 lies below the saturation value of every legal LENW. -/

namespace Sys2Proof.Machine

/-- LEN reads `k`, a value below saturation, exactly when k bytes were presented. -/
theorem lengthOf_eq_iff {lenw k : Nat} (n : Nat) (hk : k < 2 ^ lenw - 1) : lengthOf lenw n = k ↔ n = k := by
  unfold lengthOf
  omega

theorem lengthOf_lt (lenw n : Nat) : lengthOf lenw n < 2 ^ lenw := by
  have hpos : 0 < 2 ^ lenw := Nat.two_pow_pos lenw
  unfold lengthOf
  omega

/-- Settles O44: with LENW at least 7 the register saturates at 127 or above. -/
theorem lengthIsSixtyFourOnlyForSixtyFourBytes : Obligations.LengthIsSixtyFourOnlyForSixtyFourBytes := by
  intro lenw n hlenw
  have hsat : 2 ^ 7 ≤ 2 ^ lenw := Nat.pow_le_pow_right (by decide) hlenw
  exact ⟨lengthOf_eq_iff n (by omega), lengthOf_lt lenw n⟩

end Sys2Proof.Machine

/-! The constants K and IV as roots of primes (spec/10_state.md R21, R22). The first 64 primes are a table, checked by
trial division: it starts with the prime 2 and each entry is the next prime after the one before it. -/

namespace Sys2Proof.Machine

/-- The 64 smallest primes in order. -/
def firstPrimes : Vector Nat 64 :=
  #v[
    2, 3, 5, 7, 11, 13, 17, 19, 23, 29, 31, 37, 41, 43, 47, 53,
    59, 61, 67, 71, 73, 79, 83, 89, 97, 101, 103, 107, 109, 113, 127, 131,
    137, 139, 149, 151, 157, 163, 167, 173, 179, 181, 191, 193, 197, 199, 211, 223,
    227, 229, 233, 239, 241, 251, 257, 263, 269, 271, 277, 281, 283, 293, 307, 311]

/-- `q` is the next number after `p` with the property `P`. -/
abbrev IsNext (P : Nat → Prop) (p q : Nat) : Prop := p < q ∧ P q ∧ ∀ m, p + 1 ≤ m → m < q → ¬P m

/-- `n` has no divisor below 19 but 1 and itself: primality by trial division for n below 19^2. -/
abbrev TrialPrime (n : Nat) : Prop := 2 ≤ n ∧ ∀ d < 19, 2 ≤ d → d ∣ n → d = n

/-- A number below 19^2 that is not prime has its least prime factor below 19. -/
theorem prime_iff_trialPrime {n : Nat} (hn : n < 19 ^ 2) : n.Prime ↔ TrialPrime n := by
  constructor
  · intro hp
    exact ⟨hp.two_le, fun d _ h2 hd => (hp.eq_one_or_self_of_dvd d hd).resolve_left (by omega)⟩
  · rintro ⟨h2, htrial⟩
    by_contra hp
    have hsq : n.minFac ^ 2 < 19 ^ 2 := (Nat.minFac_sq_le_self (by omega) hp).trans_lt hn
    have hlt : n.minFac < 19 := lt_of_pow_lt_pow_left₀ 2 (by decide) hsq
    have hmin : n.minFac.Prime := Nat.minFac_prime (by omega)
    exact hp (htrial _ hlt hmin.two_le n.minFac_dvd ▸ hmin)

theorem isNext_prime_of_trialPrime {p q : Nat} (hq : q < 19 ^ 2) (h : IsNext TrialPrime p q) :
    IsNext Nat.Prime p q := by
  obtain ⟨hlt, hprime, hgap⟩ := h
  exact ⟨hlt, (prime_iff_trialPrime hq).2 hprime,
    fun m hm hmq hp => hgap m hm hmq ((prime_iff_trialPrime (hmq.trans hq)).1 hp)⟩

/-- The next prime after prime number k is prime number k + 1. -/
theorem nth_prime_succ {k p q : Nat} (hp : Nat.nth Nat.Prime k = p) (hq : IsNext Nat.Prime p q) :
    Nat.nth Nat.Prime (k + 1) = q := by
  obtain ⟨hlt, hprime, hgap⟩ := hq
  have hinf := Nat.infinite_setOfPred_prime
  have hmono : p < Nat.nth Nat.Prime (k + 1) := hp ▸ Nat.nth_strictMono hinf k.lt_succ_self
  refine le_antisymm (not_lt.1 fun h => ?_)
    (not_lt.1 fun h => hgap _ hmono h (Nat.nth_mem_of_infinite hinf (k + 1)))
  have hle : q ≤ p := hp ▸ Nat.le_nth_of_lt_nth_succ h hprime
  omega

theorem firstPrimes_lt : ∀ i : Fin 64, firstPrimes[i] < 19 ^ 2 := by decide

theorem firstPrimes_isNext_trialPrime :
    ∀ i : Fin 63, IsNext TrialPrime firstPrimes[i.castSucc] firstPrimes[i.succ] := by decide

theorem firstPrimes_isNext_prime (i : Fin 63) : IsNext Nat.Prime firstPrimes[i.castSucc] firstPrimes[i.succ] :=
  isNext_prime_of_trialPrime (firstPrimes_lt i.succ) (firstPrimes_isNext_trialPrime i)

theorem nth_prime_eq_firstPrimes (i : Nat) (hi : i < 64) : Nat.nth Nat.Prime i = firstPrimes[i] := by
  induction i with
  | zero => exact Nat.nth_prime_zero_eq_two
  | succ i ih => exact nth_prime_succ (ih (by omega)) (firstPrimes_isNext_prime ⟨i, by omega⟩)

/-- `x` is the first 32 bits of the fraction of the `d`-th root of `p`, and `n` the root's integer part: the floor of
the root times 2^32 is n * 2^32 + x. -/
abbrev IsRootFraction (d p n x : Nat) : Prop :=
  (n * 2 ^ 32 + x) ^ d ≤ p * 2 ^ (32 * d) ∧ p * 2 ^ (32 * d) < (n * 2 ^ 32 + x + 1) ^ d

/-- 10 R21 on the table of primes, all below 7^3. -/
theorem standardK_isRootFraction :
    ∀ i : Fin 64, ∃ n < 7, IsRootFraction 3 firstPrimes[i] n Config.standardK[i].toNat := by decide

/-- 10 R22 on the table of primes, the first eight below 5^2. -/
theorem standardIV_isRootFraction :
    ∀ k : Fin 8, ∃ n < 5, IsRootFraction 2 firstPrimes[k.val] n Config.standardIV[k].toNat := by decide

/-- Settles O43: the primes are those of the table, and the two bounds are checked on it entry by entry. -/
theorem constantsAreRootsOfPrimes : Obligations.ConstantsAreRootsOfPrimes := by
  refine ⟨fun i => ?_, fun k => ?_⟩
  · obtain ⟨n, -, hroot⟩ := standardK_isRootFraction i
    rw [nth_prime_eq_firstPrimes i.val i.isLt]
    exact ⟨n, hroot⟩
  · obtain ⟨n, -, hroot⟩ := standardIV_isRootFraction k
    rw [nth_prime_eq_firstPrimes k.val (by omega)]
    exact ⟨n, hroot⟩

end Sys2Proof.Machine

/-! BLK and LEN along a step (spec/20_memory.md R30, spec/45_host_interface.md R114): no micro-operation writes the
block buffer, and the transactions that do write it, H_LOAD and H_RESET, leave BLK in canonical form. -/

namespace Sys2Proof.Machine

/-- CHK has two ends: the hash state from IV, or InvalidInput (41 R75). -/
theorem execChk_next {s u : State} (h : execChk s = .next u) :
    (s.len = 64 ∧ u = (s.setHash s.config.iv).goto .load 0) ∨ (s.len ≠ 64 ∧ u = s.raiseInvalidInput) := by
  unfold execChk at h
  split at h
  · next hlen => cases h; exact .inl ⟨hlen, rfl⟩
  · next hlen => cases h; exact .inr ⟨hlen, rfl⟩

/-- EXP completes from index 16 on only: it writes W[i] and moves SEQ on (41 R77). -/
theorem execExp_next {i : Fin 64} {s u : State} (h : execExp i s = .next u) :
    16 ≤ i.val ∧ u = if i.val < 63 then (s.setW i (scheduleWord s.readW i)).goto .expand (i.val + 1)
      else (s.setW i (scheduleWord s.readW i)).goto .init 0 := by
  unfold execExp at h
  split at h
  · next hi => cases h; exact ⟨hi, rfl⟩
  · cases h

@[simp] theorem State.raiseInvalidInput_blk (s : State) : s.raiseInvalidInput.blk = s.blk := by
  simp [State.raiseInvalidInput]

@[simp] theorem State.raiseInvalidInput_len (s : State) : s.raiseInvalidInput.len = s.len := by
  simp [State.raiseInvalidInput]

@[simp] theorem State.acceptStart_blk (s : State) : s.acceptStart.blk = s.blk := by
  simp [State.acceptStart]

@[simp] theorem State.acceptStart_len (s : State) : s.acceptStart.len = s.len := by
  simp [State.acceptStart]

theorem awaitStart_block (p : Phase) (s : State) :
    (awaitStart p s).blk = s.blk ∧ (awaitStart p s).len = s.len := by
  cases hs : s.start with
  | false => simp [awaitStart_idle p s hs]
  | true => simp [awaitStart_start p s hs]

/-- No micro-operation writes the block buffer, BLK or LEN. -/
theorem exec_block {i : Instr} {s u : State} (h : exec i s = .next u) : u.blk = s.blk ∧ u.len = s.len := by
  cases i with
  | wait => cases h; exact awaitStart_block _ s
  | chk => obtain ⟨-, rfl⟩ | ⟨-, rfl⟩ := execChk_next h <;> simp
  | ldw j => cases h; split <;> simp
  | exp i => obtain ⟨-, rfl⟩ := execExp_next h; split <;> simp
  | ini => cases h; simp
  | rnd i => cases h; split <;> simp
  | fin => cases h; simp
  | hlt => cases h; exact awaitStart_block _ s
  | erh => cases h; exact awaitStart_block _ s

theorem turnOf_sequencer_block {s s' : State} (h : turnOf s = .sequencer s') :
    s'.blk = s.blk ∧ s'.len = s.len := by
  rw [turnOf_sequencer h]; exact ⟨rfl, rfl⟩

/-- H_LOAD and H_RESET leave BLK in canonical form, every other transaction leaves BLK. -/
theorem transact_blk_wf (x : Transaction) (s : State) (h : s.blk.wf) : (transact x s).blk.wf := by
  by_cases hx : x = .start
  · subst hx; exact h
  · obtain ⟨bytes, -, ht⟩ | ⟨-, ht⟩ | ⟨r, ht⟩ := transact_cases s hx <;> rw [ht]
    · exact hostLoad_blk_wf bytes s h
    · exact Memory.wf_nil
    · exact h

/-- Settles O28: a transaction keeps the canonical form, and a micro-operation does not write BLK. -/
theorem blockStoreStaysCanonical : Obligations.BlockStoreStaysCanonical := by
  intro s t hwf h
  obtain ⟨x, rest, -, -, rfl⟩ | ⟨s', i, u, hturn, -, hexec, rfl⟩ := step_next h
  · exact transact_blk_wf x _ hwf
  · have hblk : u.blk = s.blk := (exec_block hexec).1.trans (turnOf_sequencer_block hturn).1
    exact hblk ▸ hwf

end Sys2Proof.Machine

/-! The host's reads (spec/45_host_interface.md R116, R117) and the instances of a platform (spec/20_memory.md R44,
spec/60_exceptions.md R137). -/

namespace Sys2Proof.Machine

/-- Settles O50: each read is `State.reply` of its answer, which puts it at the front of the list of answers and writes
no other field. -/
theorem hostReadsChangeNothing : Obligations.HostReadsChangeNothing :=
  fun _ => ⟨rfl, rfl, rfl, rfl, rfl, rfl, rfl⟩

/-- A platform's step replaces the state at `k` by the next state of its own step. -/
theorem Platform.step_next {p q : Platform} {k : Fin p.length} (h : Platform.step p k = .next q) :
    ∃ t, Machine.step p[k] = .next t ∧ q = p.set k.val t := by
  unfold Platform.step at h
  split at h
  · next t ht => cases h; exact ⟨t, ht, rfl⟩
  · cases h
  · cases h

/-- Settles O56, by reading the list of instances after one entry was replaced. -/
theorem instancesDoNotInterfere : Obligations.InstancesDoNotInterfere := by
  intro p q k h
  obtain ⟨t, ht, rfl⟩ := Platform.step_next h
  exact ⟨List.length_set, ⟨t, ht, List.getElem?_set_self k.isLt⟩, fun j hj => List.getElem?_set_ne hj.symm⟩

end Sys2Proof.Machine

/-! The sequencer word and its decoder (spec/30_encoding.md R45 to R49): a word is its phase and its index, the decoder
inverts the encoder on the well-formed micro-operations, and the mask and match columns of R48 say the same. -/

namespace Sys2Proof

/-- A sequencer word is determined by its phase and its index (R45). -/
theorem seq_ext_iff {q r : BitVec 10} : q = r ↔ seqPhase q = seqPhase r ∧ seqIdx q = seqIdx r := by
  refine ⟨fun h => h ▸ ⟨rfl, rfl⟩, fun ⟨hphase, hidx⟩ => ?_⟩
  calc q = seqPhase q ++ seqIdx q := (BitVec.extractLsb'_append_extractLsb' (w := 4) (len := 6)).symm
    _ = seqPhase r ++ seqIdx r := by rw [hphase, hidx]
    _ = r := BitVec.extractLsb'_append_extractLsb' (w := 4) (len := 6)

theorem seqOf_eq_iff {p : Phase} {n : BitVec 6} {q : BitVec 10} :
    seqOf p n = q ↔ seqPhase q = p.code ∧ seqIdx q = n := by
  rw [seq_ext_iff, seqPhase_seqOf, seqIdx_seqOf, eq_comm, @eq_comm _ n]

theorem seqPhase_toNat (q : BitVec 10) : (seqPhase q).toNat = q.toNat / 64 := by
  rw [seqPhase, BitVec.extractLsb'_toNat, Nat.shiftRight_eq_div_pow]
  omega

theorem seqIdx_toNat (q : BitVec 10) : (seqIdx q).toNat = q.toNat % 64 := by
  simp [seqIdx]

theorem seqIdx_eq_ofNat_iff {q : BitVec 10} {n : Nat} (hn : n < 64) :
    seqIdx q = BitVec.ofNat 6 n ↔ n = q.toNat % 64 := by
  rw [← BitVec.toNat_inj, seqIdx_toNat, BitVec.toNat_ofNat, Nat.mod_eq_of_lt (a := n) hn, eq_comm]

@[simp] theorem seqPhase_and (q m : BitVec 10) : seqPhase (q &&& m) = seqPhase q &&& seqPhase m :=
  BitVec.extractLsb'_and

@[simp] theorem seqIdx_and (q m : BitVec 10) : seqIdx (q &&& m) = seqIdx q &&& seqIdx m :=
  BitVec.extractLsb'_and

theorem Phase.ofCode_eq_some_iff {c : BitVec 4} {p : Phase} : Phase.ofCode c = some p ↔ c = p.code := by
  revert c; cases p <;> decide

theorem Phase.ofCode_eq_none_iff {c : BitVec 4} : Phase.ofCode c = none ↔ 9 ≤ c.toNat := by
  revert c; decide

theorem decodeBare_eq_ok_iff {i j : Instr} {p : BitVec 4} {n : BitVec 6} :
    decodeBare i p n = .ok j ↔ n = 0 ∧ i = j := by
  unfold decodeBare
  split
  · next hn => simp only [hn, true_and, Except.ok.injEq]
  · next hn => simp only [hn, false_and, reduceCtorEq]

theorem decodeBare_eq_error_iff {i : Instr} {p : BitVec 4} {n : BitVec 6} :
    (∃ why, decodeBare i p n = .error why) ↔ n ≠ 0 := by
  unfold decodeBare
  split
  · next hn => simp only [hn, reduceCtorEq, exists_false, ne_eq, not_true]
  · next hn => simp only [hn, Except.error.injEq, exists_eq', ne_eq, not_false_iff]

/-- A word that decodes is the word of what it decodes to, and the micro-operation is well-formed. -/
theorem encode_of_decode {q : BitVec 10} {i : Instr} (h : decode q = .ok i) : encode i = q ∧ WellFormed i := by
  cases hp : Phase.ofCode (seqPhase q) with
  | none => simp [decode, hp] at h
  | some p =>
    have hphase := Phase.ofCode_eq_some_iff.1 hp
    cases p with
    | idle | check | init | final | done | error =>
      obtain ⟨hidx, rfl⟩ := decodeBare_eq_ok_iff.1 (by simpa only [decode, hp] using h)
      exact ⟨seqOf_eq_iff.2 ⟨hphase, hidx⟩, rfl⟩
    | load =>
      simp only [decode, hp] at h
      split at h <;> cases h
      exact ⟨seqOf_eq_iff.2 ⟨hphase, by simp⟩, rfl⟩
    | expand =>
      simp only [decode, hp] at h
      split at h <;> cases h
      next hidx => exact ⟨seqOf_eq_iff.2 ⟨hphase, by simp⟩, decide_eq_true hidx⟩
    | rounds =>
      simp only [decode, hp] at h
      cases h
      exact ⟨seqOf_eq_iff.2 ⟨hphase, by simp⟩, rfl⟩

theorem decode_encode {i : Instr} (h : WellFormed i) : decode (encode i) = .ok i := by
  cases i with
  | wait | chk | ini | fin | hlt | erh => simp [encode, decode, decodeBare]
  | ldw j =>
    have hj : j.val % 64 = j.val := Nat.mod_eq_of_lt (by omega)
    simp [encode, decode, hj]
  | exp n =>
    have hn : 16 ≤ n.val := of_decide_eq_true h
    simp [encode, decode, hn]
  | rnd n => simp [encode, decode]

/-- Settles O1: the fields of an encoded word are the phase and the operand of its micro-operation. -/
theorem decodeOfEncode : Obligations.DecodeOfEncode :=
  fun _ => decode_encode

/-- Settles O2: phase by phase, the index that decodes is the operand. -/
theorem encodeOfDecode : Obligations.EncodeOfDecode :=
  fun _ _ => encode_of_decode

theorem decode_eq_ok_iff {q : BitVec 10} {i : Instr} : decode q = .ok i ↔ encode i = q ∧ WellFormed i :=
  ⟨encode_of_decode, fun ⟨hq, hwf⟩ => hq ▸ decode_encode hwf⟩

/-- The mask 0x3FF of a row without operand leaves the whole word. -/
theorem and_fullMask (q : BitVec 10) : q &&& 0x3FF = q := BitVec.and_allOnes

/-- The mask 0x3C0 leaves the phase. -/
theorem and_phaseMask_eq_iff (q : BitVec 10) (p : Phase) : q &&& 0x3C0 = seqOf p 0 ↔ seqPhase q = p.code := by
  have hphase : seqPhase 0x3C0 = BitVec.allOnes 4 := by decide
  have hidx : seqIdx 0x3C0 = 0#6 := by decide
  rw [seq_ext_iff, seqPhase_and, hphase, BitVec.and_allOnes, seqPhase_seqOf, seqIdx_and, hidx, BitVec.and_zero,
    seqIdx_seqOf]
  exact and_iff_left rfl

/-- The mask 0x3F0 leaves the phase and the upper two bits of the index. -/
theorem and_loadMask_eq_iff (q : BitVec 10) (p : Phase) :
    q &&& 0x3F0 = seqOf p 0 ↔ seqPhase q = p.code ∧ q.toNat % 64 < 16 := by
  have hphase : seqPhase 0x3F0 = BitVec.allOnes 4 := by decide
  have hidx : seqIdx 0x3F0 = 0x30 := by decide
  have hupper : ∀ n : BitVec 6, n &&& 0x30 = 0 ↔ n.toNat < 16 := by decide
  simp only [seq_ext_iff, seqPhase_and, hphase, BitVec.and_allOnes, seqPhase_seqOf, seqIdx_and, hidx, seqIdx_seqOf,
    hupper, seqIdx_toNat]

/-- A row whose operand is the index: the phase matches and the operand is the low six bits. -/
theorem seqOf_operand_eq_iff {q : BitVec 10} {p : Phase} {n : Nat} (hn : n < 64) :
    seqOf p (BitVec.ofNat 6 n) = q ↔ seqPhase q = p.code ∧ n = q.toNat % 64 := by
  rw [seqOf_eq_iff, seqIdx_eq_ofNat_iff hn]

/-- Settles O3: what a row's mask leaves of SEQ, against the fields of the row's word. -/
theorem seqSelectsRowByMaskAndMatch : Obligations.SeqSelectsRowByMaskAndMatch := by
  intro q i
  rw [decode_eq_ok_iff]
  cases i with
  | wait | chk | ini | fin | hlt | erh =>
    simp only [rowMask, and_fullMask, WellFormed, Instr.wf, and_true]
    exact eq_comm
  | ldw j =>
    have hmask : q &&& 0x3F0 = 0x080 ↔ seqPhase q = Phase.load.code ∧ q.toNat % 64 < 16 :=
      and_loadMask_eq_iff q .load
    have hj : j.val < 64 := by omega
    simp only [encode, rowMask, rowMatch, seqOf_operand_eq_iff hj, hmask, WellFormed, Instr.wf, and_true, and_assoc]
    refine and_congr_right fun _ => ?_
    omega
  | exp n =>
    have hmask : q &&& 0x3C0 = 0x0C0 ↔ seqPhase q = Phase.expand.code := and_phaseMask_eq_iff q .expand
    simp only [encode, rowMask, rowMatch, seqOf_operand_eq_iff n.isLt, hmask, WellFormed, Instr.wf, decide_eq_true_eq,
      and_assoc]
  | rnd n =>
    have hmask : q &&& 0x3C0 = 0x140 ↔ seqPhase q = Phase.rounds.code := and_phaseMask_eq_iff q .rounds
    simp only [encode, rowMask, rowMatch, seqOf_operand_eq_iff n.isLt, hmask, WellFormed, Instr.wf, and_true]

/-- Settles O4: the phases without a code, and for each phase the indices it does not use. -/
theorem reservedSeqValuesAreTheFourClasses : Obligations.ReservedSeqValuesAreTheFourClasses := by
  intro q
  rw [← seqPhase_toNat, ← seqIdx_toNat]
  cases hp : Phase.ofCode (seqPhase q) with
  | none => simp [decode, hp, Phase.ofCode_eq_none_iff.1 hp]
  | some p =>
    have hcode : (seqPhase q).toNat = p.code.toNat := congrArg _ (Phase.ofCode_eq_some_iff.1 hp)
    cases p with
    | idle | check | init | final | done | error =>
      simp [decode, hp, decodeBare_eq_error_iff, hcode, Phase.code, ← BitVec.toNat_inj]
    | load =>
      by_cases hn : (seqIdx q).toNat < 16
      · simp [decode, hp, hcode, Phase.code, hn, not_le.2 hn]
      · simp [decode, hp, hcode, Phase.code, hn, not_lt.1 hn]
    | expand =>
      by_cases hn : 16 ≤ (seqIdx q).toNat
      · simp [decode, hp, hcode, Phase.code, hn, not_lt.2 hn]
      · simp [decode, hp, hcode, Phase.code, hn, not_le.1 hn]
    | rounds => simp [decode, hp, hcode, Phase.code]

/-- Settles O5: each of the nine words is the word of its micro-operation. -/
theorem specWordsDecode : Obligations.SpecWordsDecode :=
  ⟨decode_encode (i := .wait) rfl, decode_encode (i := .chk) rfl, decode_encode (i := .ldw 5) rfl,
    decode_encode (i := .exp 16) rfl, decode_encode (i := .ini) rfl, decode_encode (i := .rnd 34) rfl,
    decode_encode (i := .fin) rfl, decode_encode (i := .hlt) rfl, decode_encode (i := .erh) rfl⟩

end Sys2Proof

/-! The step and the decoder (spec/30_encoding.md R45, R49; spec/45_host_interface.md R113, R115): the sequencer's turn
performs the micro-operation that SEQ selects, refuses a reserved SEQ value, and completes otherwise. -/

namespace Sys2Proof.Machine

theorem runSequencer_of_ok {s : State} {i : Instr} (h : decode s.seq = .ok i) :
    runSequencer s = dropStart (exec i s) := by
  simp only [runSequencer, h]

theorem runSequencer_of_error {s : State} {why : Reserved} (h : decode s.seq = .error why) :
    runSequencer s = .refused (.reserved why) := by
  simp only [runSequencer, h]

theorem step_of_host {s s' : State} (h : turnOf s = .host s') : step s = .next s' := by
  simp only [step, h]

theorem step_of_sequencer {s s' : State} (h : turnOf s = .sequencer s') : step s = runSequencer s' := by
  simp only [step, h]

theorem step_of_no_move {s : State} (h : s.pending = []) : step s = runSequencer s :=
  step_of_sequencer (by simp only [turnOf, h])

theorem step_of_quiet {s : State} {rest : List HostMove} (h : s.pending = .quiet :: rest) :
    step s = runSequencer { s with pending := rest, start := false } :=
  step_of_sequencer (by simp only [turnOf, h])

/-- H_START and the micro-operation it is presented to are one step (45 R115). -/
theorem step_of_start {s : State} {rest : List HostMove} (h : s.pending = .act .start :: rest) :
    step s = runSequencer { s with pending := rest, start := true } :=
  step_of_sequencer (by simp only [turnOf, h, transact])

/-- Settles O21: the three moves that leave the step to the sequencer, at a SEQ value that decodes. -/
theorem stepRunsSelectedMicroOperation : Obligations.StepRunsSelectedMicroOperation :=
  fun _ _ hdec => ⟨fun h => (step_of_no_move h).trans (runSequencer_of_ok hdec),
    fun _ h => (step_of_quiet h).trans (runSequencer_of_ok hdec),
    fun _ h => (step_of_start h).trans (runSequencer_of_ok hdec)⟩

/-- Settles O6: the same three moves, at a reserved SEQ value. -/
theorem reservedSeqIsRefused : Obligations.ReservedSeqIsRefused := by
  rintro s why hdec (h | ⟨rest, h⟩ | ⟨rest, h⟩)
  · exact (step_of_no_move h).trans (runSequencer_of_error hdec)
  · exact (step_of_quiet h).trans (runSequencer_of_error hdec)
  · exact (step_of_start h).trans (runSequencer_of_error hdec)

theorem execExp_of_lt {i : Fin 64} {s : State} (h : i.val < 16) :
    execExp i s = .refused (.reserved (.index Phase.expand.code (BitVec.ofNat 6 i.val))) :=
  if_neg (not_le.2 h)

/-- Settles O16: the arm of EXP behind its index check, where 3 is the code of phase EXPAND. -/
theorem expBelowSixteenIsRefused : Obligations.ExpBelowSixteenIsRefused :=
  fun _ _ => execExp_of_lt

/-- Every well-formed micro-operation completes: EXP alone can stop, at an index below 16. -/
theorem exec_next_of_wellFormed {i : Instr} (h : WellFormed i) (s : State) : ∃ t, exec i s = .next t := by
  cases i with
  | wait | ldw | ini | rnd | fin | hlt | erh => exact ⟨_, rfl⟩
  | chk =>
    by_cases hlen : s.len = 64
    · exact ⟨_, if_pos hlen⟩
    · exact ⟨_, if_neg hlen⟩
  | exp n => exact ⟨_, if_pos (of_decide_eq_true h)⟩

theorem runSequencer_next_of_ok {s : State} {i : Instr} (h : decode s.seq = .ok i) :
    ∃ t, runSequencer s = .next t := by
  obtain ⟨u, hu⟩ := exec_next_of_wellFormed (encode_of_decode h).2 s
  exact ⟨{ u with start := false }, by rw [runSequencer_of_ok h, hu, dropStart]⟩

/-- A step can stop on a reserved SEQ value only. -/
theorem step_next_of_ok {s : State} {i : Instr} (h : decode s.seq = .ok i) : ∃ t, step s = .next t := by
  cases hturn : turnOf s with
  | host s' => exact ⟨s', step_of_host hturn⟩
  | sequencer s' =>
    have hseq : s'.seq = s.seq := by rw [turnOf_sequencer hturn]
    rw [step_of_sequencer hturn]
    exact runSequencer_next_of_ok (hseq ▸ h)

/-- In a state that meets the invariant SEQ selects a micro-operation. -/
theorem State.Inv.decode_eq_ok {s : State} (h : s.Inv) : ∃ i, decode s.seq = .ok i := by
  obtain ⟨-, -, -, hdata⟩ := h
  cases hdec : decode s.seq with
  | ok i => exact ⟨i, rfl⟩
  | error why => simp [State.dataInv, hdec] at hdata

/-- Settles O26: the invariant excludes the reserved SEQ values, and no other step can stop. -/
theorem invariantStatesAlwaysStep : Obligations.InvariantStatesAlwaysStep := by
  intro s hinv
  obtain ⟨i, hdec⟩ := hinv.decode_eq_ok
  exact step_next_of_ok hdec

end Sys2Proof.Machine

/-! The two packed values (spec/30_encoding.md R51, R52): the parts of a concatenation, from the low end on. -/

namespace Sys2Proof.Machine

theorem extractLsb'_append_high {v w : Nat} (hi : BitVec v) (lo : BitVec w) (start len : Nat) :
    (hi ++ lo).extractLsb' (w + start) len = hi.extractLsb' start len := by
  rw [BitVec.extractLsb'_append_eq_of_le (Nat.le_add_right w start), Nat.add_sub_cancel_left]

theorem getLsbD_append_high {v w : Nat} (hi : BitVec v) (lo : BitVec w) (k : Nat) :
    (hi ++ lo).getLsbD (w + k) = hi.getLsbD k := by
  simp [BitVec.getLsbD_append]

theorem getLsbD_append_ofBool {v : Nat} (hi : BitVec v) (b : Bool) : (hi ++ BitVec.ofBool b).getLsbD 0 = b := by
  rw [BitVec.getLsbD_append]
  simp

/-- Settles O53: LEN is the low part, and each other field is found by passing the parts below it. -/
theorem statusWordLayout : Obligations.StatusWordLayout := by
  intro s n
  refine ⟨?seq, ?valid, ?err, ?ecode, fun hlen => ?len⟩
  case seq =>
    calc s.statusWord.extractLsb' (n + 4) 10
      _ = BitVec.extractLsb' 4 10 (s.seq ++ BitVec.ofBool s.valid ++ BitVec.ofBool s.err ++ s.ecode) :=
        extractLsb'_append_high _ _ 4 10
      _ = BitVec.extractLsb' 2 10 (s.seq ++ BitVec.ofBool s.valid ++ BitVec.ofBool s.err) :=
        extractLsb'_append_high _ _ 2 10
      _ = BitVec.extractLsb' 1 10 (s.seq ++ BitVec.ofBool s.valid) := extractLsb'_append_high _ _ 1 10
      _ = s.seq := BitVec.extractLsb'_append_eq_left
  case valid =>
    calc s.statusWord.getLsbD (n + 3)
      _ = (s.seq ++ BitVec.ofBool s.valid ++ BitVec.ofBool s.err ++ s.ecode).getLsbD 3 := getLsbD_append_high _ _ 3
      _ = (s.seq ++ BitVec.ofBool s.valid ++ BitVec.ofBool s.err).getLsbD 1 := getLsbD_append_high _ _ 1
      _ = (s.seq ++ BitVec.ofBool s.valid).getLsbD 0 := getLsbD_append_high _ _ 0
      _ = s.valid := getLsbD_append_ofBool _ _
  case err =>
    calc s.statusWord.getLsbD (n + 2)
      _ = (s.seq ++ BitVec.ofBool s.valid ++ BitVec.ofBool s.err ++ s.ecode).getLsbD 2 := getLsbD_append_high _ _ 2
      _ = (s.seq ++ BitVec.ofBool s.valid ++ BitVec.ofBool s.err).getLsbD 0 := getLsbD_append_high _ _ 0
      _ = s.err := getLsbD_append_ofBool _ _
  case ecode =>
    calc s.statusWord.extractLsb' n 2
      _ = BitVec.extractLsb' 0 2 (s.seq ++ BitVec.ofBool s.valid ++ BitVec.ofBool s.err ++ s.ecode) :=
        extractLsb'_append_high _ _ 0 2
      _ = s.ecode := BitVec.extractLsb'_append_eq_right
  case len =>
    calc (s.statusWord.extractLsb' 0 n).toNat
      _ = (BitVec.ofNat n s.len).toNat := congrArg _ BitVec.extractLsb'_append_eq_right
      _ = s.len := by rw [BitVec.toNat_ofNat, Nat.mod_eq_of_lt hlen]

/-- Settles O54: a slot is reached by passing the words below it. -/
theorem traceRecordSlots : Obligations.TraceRecordSlots := by
  intro r m
  unfold TraceRecord.bits
  fin_cases m <;> repeat rw [BitVec.extractLsb'_append_eq_of_le (by decide)]
  · exact BitVec.extractLsb'_eq_self
  all_goals exact BitVec.extractLsb'_append_eq_right

end Sys2Proof.Machine

/-! The word functions bit by bit (spec/40_word_functions.md R60 to R70): rotr is the library's right rotation, and the
sigma functions, Ch and Maj are read through what they do to bit k. -/

namespace Sys2Proof.Machine

/-- Settles O7: add32 is the sum of bit vectors. -/
theorem addWrapsModulo : Obligations.AddWrapsModulo :=
  fun x y z => ⟨BitVec.toNat_add x y, BitVec.add_comm x y, BitVec.add_assoc x y z⟩

theorem rotr_eq_rotateRight (x : Word) (n : Nat) : rotr x n = x.rotateRight n :=
  BitVec.rotateRight_def.symm

/-- Bit k moves within the word when k lies below 32 - n mod 32, and around its end otherwise. -/
theorem getLsbD_rotr (x : Word) (n : Nat) {k : Nat} (hk : k < 32) :
    (rotr x n).getLsbD k = x.getLsbD ((k + n) % 32) := by
  rw [rotr_eq_rotateRight, BitVec.getLsbD_rotateRight]
  by_cases h : k < 32 - n % 32
  · have hbit : n % 32 + k = (k + n) % 32 := by omega
    simp only [h, decide_true, cond_true, hbit]
  · have hbit : k - (32 - n % 32) = (k + n) % 32 := by omega
    simp only [h, hk, decide_false, decide_true, cond_false, Bool.true_and, hbit]

theorem getLsbD_shr (x : Word) (n k : Nat) : (shr x n).getLsbD k = x.getLsbD (k + n) := by
  rw [shr, BitVec.getLsbD_ushiftRight, Nat.add_comm]

/-- Settles O8: `getLsbD_rotr` at the amounts the hardware has. -/
theorem rotrMovesBits : Obligations.RotrMovesBits :=
  fun x n _ _ _ hk => getLsbD_rotr x n hk

/-- Settles O9: the logical right shift divides, by any amount. -/
theorem shrIsFloorDivision : Obligations.ShrIsFloorDivision :=
  fun x n _ => (BitVec.toNat_ushiftRight x n).trans (Nat.shiftRight_eq_div_pow x.toNat n)

/-- Settles O10: the exclusive or is taken bit by bit, and each rotation or shift names the bit it brings to place k. -/
theorem sigmaFunctionsBitByBit : Obligations.SigmaFunctionsBitByBit := by
  intro x k hk
  have hrotr (n : Nat) : (rotr x n).getLsbD k = x.getLsbD ((k + n) % 32) := getLsbD_rotr x n hk
  refine ⟨?sigma0, ?sigma1, ?bigSigma0, ?bigSigma1⟩
  case sigma0 => simp only [sigma0, BitVec.getLsbD_xor, hrotr, getLsbD_shr]
  case sigma1 => simp only [sigma1, BitVec.getLsbD_xor, hrotr, getLsbD_shr]
  case bigSigma0 => simp only [bigSigma0, BitVec.getLsbD_xor, hrotr]
  case bigSigma1 => simp only [bigSigma1, BitVec.getLsbD_xor, hrotr]

theorem getLsbD_ch (x y z : Word) {k : Nat} (hk : k < 32) :
    (ch x y z).getLsbD k = if x.getLsbD k then y.getLsbD k else z.getLsbD k := by
  simp only [ch, BitVec.getLsbD_xor, BitVec.getLsbD_and, BitVec.getLsbD_not, hk, decide_true, Bool.true_and]
  cases x.getLsbD k <;> simp

theorem getLsbD_maj (x y z : Word) (k : Nat) : (maj x y z).getLsbD k =
    (x.getLsbD k && y.getLsbD k ^^ x.getLsbD k && z.getLsbD k ^^ y.getLsbD k && z.getLsbD k) := by
  simp only [maj, BitVec.getLsbD_xor, BitVec.getLsbD_and]

theorem xor_of_pairs_iff_majority : ∀ a b c : Bool,
    (a && b ^^ a && c ^^ b && c) = true ↔ 2 ≤ a.toNat + b.toNat + c.toNat := by decide

/-- Settles O11: Ch by the two values of x's bit, Maj by the truth table of its three bits. -/
theorem chSelectsMajVotes : Obligations.ChSelectsMajVotes := fun x y z k hk =>
  ⟨getLsbD_ch x y z hk, getLsbD_maj x y z k ▸ xor_of_pairs_iff_majority _ _ _⟩

end Sys2Proof.Machine

/-! Words and bytes (spec/40_word_functions.md R72): the value of a concatenation, and be32 and bytes32 as inverses. -/

namespace Sys2Proof.Machine

theorem toNat_append_eq_add {v w : Nat} (hi : BitVec v) (lo : BitVec w) :
    (hi ++ lo).toNat = hi.toNat * 2 ^ w + lo.toNat := by
  rw [BitVec.toNat_append, ← Nat.shiftLeft_add_eq_or_of_lt lo.isLt, Nat.shiftLeft_eq]

theorem be32_toNat (b0 b1 b2 b3 : Byte) :
    (be32 b0 b1 b2 b3).toNat = b0.toNat * 2 ^ 24 + b1.toNat * 2 ^ 16 + b2.toNat * 2 ^ 8 + b3.toNat := by
  simp only [be32, toNat_append_eq_add]
  omega

/-- Each byte is found by passing the bytes below it. -/
theorem bytes32_be32 (b0 b1 b2 b3 : Byte) : bytes32 (be32 b0 b1 b2 b3) = [b0, b1, b2, b3] := by
  have h0 : (be32 b0 b1 b2 b3).extractLsb' 24 8 = b0 :=
    calc (be32 b0 b1 b2 b3).extractLsb' 24 8
      _ = (b0 ++ b1 ++ b2).extractLsb' 16 8 := extractLsb'_append_high _ b3 16 8
      _ = (b0 ++ b1).extractLsb' 8 8 := extractLsb'_append_high _ b2 8 8
      _ = b0 := BitVec.extractLsb'_append_eq_left
  have h1 : (be32 b0 b1 b2 b3).extractLsb' 16 8 = b1 :=
    calc (be32 b0 b1 b2 b3).extractLsb' 16 8
      _ = (b0 ++ b1 ++ b2).extractLsb' 8 8 := extractLsb'_append_high _ b3 8 8
      _ = (b0 ++ b1).extractLsb' 0 8 := extractLsb'_append_high _ b2 0 8
      _ = b1 := BitVec.extractLsb'_append_eq_right
  have h2 : (be32 b0 b1 b2 b3).extractLsb' 8 8 = b2 :=
    calc (be32 b0 b1 b2 b3).extractLsb' 8 8
      _ = (b0 ++ b1 ++ b2).extractLsb' 0 8 := extractLsb'_append_high _ b3 0 8
      _ = b2 := BitVec.extractLsb'_append_eq_right
  have h3 : (be32 b0 b1 b2 b3).extractLsb' 0 8 = b3 := BitVec.extractLsb'_append_eq_right
  rw [bytes32, h0, h1, h2, h3]

/-- Neighbouring extracts join to one extract, at last to the whole word. -/
theorem be32_extractLsb' (v : Word) :
    be32 (v.extractLsb' 24 8) (v.extractLsb' 16 8) (v.extractLsb' 8 8) (v.extractLsb' 0 8) = v := by
  unfold be32
  repeat rw [BitVec.extractLsb'_append_extractLsb'_eq_extractLsb' (by decide)]
  exact BitVec.extractLsb'_eq_self

theorem extractLsb'_toNat_eq_div_mod {w : Nat} (v : BitVec w) (start len : Nat) :
    (v.extractLsb' start len).toNat = v.toNat / 2 ^ start % 2 ^ len := by
  rw [BitVec.extractLsb'_toNat, Nat.shiftRight_eq_div_pow]

/-- Settles O12: the weights and the two inverses; the top byte needs no reduction, since a word lies below 2^32. -/
theorem packingIsBigEndian : Obligations.PackingIsBigEndian := by
  refine ⟨fun b0 b1 b2 b3 => ⟨be32_toNat b0 b1 b2 b3, bytes32_be32 b0 b1 b2 b3⟩, fun v => ?_⟩
  refine ⟨_, _, _, _, rfl, be32_extractLsb' v, ?_, extractLsb'_toNat_eq_div_mod v 16 8,
    extractLsb'_toNat_eq_div_mod v 8 8, BitVec.extractLsb'_toNat 0 8 v⟩
  have hv : v.toNat < 2 ^ 32 := v.isLt
  have htop : v.toNat / 2 ^ 24 < 2 ^ 8 := by omega
  rw [extractLsb'_toNat_eq_div_mod, Nat.mod_eq_of_lt htop]

end Sys2Proof.Machine

/-! The two loops of expand_schedule (spec/41_schedule_expander.md R78, R79): each word is written once, by the pass of
its own index, and a later pass leaves it alone, so the finished schedule meets the groups and the recurrence. -/

namespace Sys2Proof.Machine

/-- Word i of the recurrence reads earlier words only. -/
theorem scheduleWord_congr {w w' : Fin 64 → Word} {i : Fin 64} (hi : 16 ≤ i.val)
    (h : ∀ k : Fin 64, k.val < i.val → w k = w' k) : scheduleWord w i = scheduleWord w' i := by
  have hback (n : Nat) (hn : 0 < n) : w (backIndex i n) = w' (backIndex i n) :=
    h _ (show i.val - n < i.val by omega)
  simp only [scheduleWord, hback _ (Nat.succ_pos _)]

theorem scheduleWord_toNat (w : Fin 64 → Word) (i : Fin 64) :
    (scheduleWord w i).toNat =
      ((sigma1 (w (backIndex i 2))).toNat + (w (backIndex i 7)).toNat + (sigma0 (w (backIndex i 15))).toNat +
        (w (backIndex i 16)).toNat) % 2 ^ 32 := by
  simp only [scheduleWord, BitVec.toNat_add, Nat.mod_add_mod]

theorem backIndex_eq {i p : Fin 64} {n : Nat} (h : p.val + n = i.val) : backIndex i n = p :=
  Fin.ext (Nat.sub_eq_of_eq_add h.symm)

/-- The pass of index n of the first loop writes word n and no other. -/
theorem loadWords_succ (block : Vector Byte 64) {n : Nat} (hn : n < 16) (w : Vector Word 64) (k : Fin 64) :
    (loadWords block (n + 1) w)[k] =
      if n = k.val then groupWord (fun k => block[k]) ⟨n, hn⟩ else (loadWords block n w)[k] := by
  simp only [loadWords, hn, dif_pos, Fin.getElem_fin, Vector.getElem_set]

theorem loadWords_at (block : Vector Byte 64) (w : Vector Word 64) (j : Fin 16) {n : Nat} (hj : j.val < n)
    (hn : n ≤ 16) : (loadWords block n w)[loadIndex j] = groupWord (fun k => block[k]) j := by
  induction n with
  | zero => omega
  | succ n ih =>
    rw [loadWords_succ block hn]
    by_cases hlast : n = j.val
    · subst hlast
      exact if_pos rfl
    · rw [if_neg (show n ≠ (loadIndex j).val from hlast)]
      exact ih (by omega) (by omega)

/-- Pass n of the second loop writes word 16 + n, by the recurrence over the words so far, and no other. -/
theorem extendWords_succ {n : Nat} (hn : 16 + n < 64) (w : Vector Word 64) (k : Fin 64) :
    (extendWords (n + 1) w)[k] =
      if 16 + n = k.val then scheduleWord (fun k => (extendWords n w)[k]) ⟨16 + n, hn⟩
      else (extendWords n w)[k] := by
  simp only [extendWords, hn, dif_pos, Fin.getElem_fin, Vector.getElem_set]

/-- Words below 16 + m are final after m passes. -/
theorem extendWords_eq_of_lt (w : Vector Word 64) {m n : Nat} (hmn : m ≤ n) (hn : n ≤ 48) {k : Fin 64}
    (hk : k.val < 16 + m) : (extendWords n w)[k] = (extendWords m w)[k] := by
  induction n, hmn using Nat.le_induction with
  | base => rfl
  | succ n hmn ih => rw [extendWords_succ (by omega), if_neg (by omega), ih (by omega)]

/-- Word i is written by pass i - 16 and, like the words it is made of, not changed after it. -/
theorem extendWords_recurrence (w : Vector Word 64) {i : Fin 64} (hi : 16 ≤ i.val) :
    (extendWords 48 w)[i] = scheduleWord (fun k => (extendWords 48 w)[k]) i := by
  obtain ⟨m, hm⟩ := Nat.exists_eq_add_of_le hi
  have hi' : i = ⟨16 + m, hm ▸ i.isLt⟩ := Fin.ext hm
  calc (extendWords 48 w)[i]
    _ = (extendWords (m + 1) w)[i] := extendWords_eq_of_lt w (by omega) (by omega) (by omega)
    _ = scheduleWord (fun k => (extendWords m w)[k]) i := by
      rw [extendWords_succ (by omega), if_pos hm.symm, ← hi']
    _ = scheduleWord (fun k => (extendWords 48 w)[k]) i :=
      scheduleWord_congr hi fun k hk => (extendWords_eq_of_lt w (by omega) (by omega) (by omega)).symm

/-- Words 0..15 of a schedule are the groups of the block (R79 (a)). -/
theorem scheduleOf_loadIndex (block : Vector Byte 64) (j : Fin 16) :
    (scheduleOf block)[loadIndex j] = groupWord (fun k => block[k]) j :=
  (extendWords_eq_of_lt _ (Nat.zero_le 48) le_rfl j.isLt).trans (loadWords_at block _ j j.isLt le_rfl)

/-- Words 16..63 of a schedule meet the recurrence (R79 (b)). -/
theorem scheduleOf_recurrence (block : Vector Byte 64) {i : Fin 64} (hi : 16 ≤ i.val) :
    (scheduleOf block)[i] = scheduleWord (fun k => (scheduleOf block)[k]) i :=
  extendWords_recurrence _ hi

/-- Settles O37: the groups by the weights of `be32`, the recurrence by its sum mod 2^32. -/
theorem scheduleIsGroupsThenRecurrence : Obligations.ScheduleIsGroupsThenRecurrence := by
  refine fun block => ⟨fun j => ?_, fun i p2 p7 p15 p16 h2 h7 h15 h16 => ?_⟩
  · rw [scheduleOf_loadIndex, groupWord, be32_toNat]
  · rw [scheduleOf_recurrence block (by omega), scheduleWord_toNat, backIndex_eq h2, backIndex_eq h7,
      backIndex_eq h15, backIndex_eq h16]

/-- Every byte of the block is the byte of some group. -/
theorem exists_byteIndex_eq (k : Fin 64) : ∃ j m, byteIndex j m = k :=
  ⟨⟨k.val / 4, by omega⟩, ⟨k.val % 4, by omega⟩, Fin.ext (Nat.div_add_mod k.val 4)⟩

/-- A group's word determines its four bytes: `bytes32` undoes `be32`. -/
theorem groupWord_inj {byte byte' : Fin 64 → Byte} {j : Fin 16} (h : groupWord byte j = groupWord byte' j)
    (m : Fin 4) : byte (byteIndex j m) = byte' (byteIndex j m) := by
  have hbytes := congrArg bytes32 h
  simp only [groupWord, bytes32_be32, List.cons.injEq, and_true] at hbytes
  obtain ⟨h0, h1, h2, h3⟩ := hbytes
  fin_cases m
  · exact h0
  · exact h1
  · exact h2
  · exact h3

/-- Settles O38: equal words are equal groups, and the groups cover the block. -/
theorem firstSixteenWordsDetermineBlock : Obligations.FirstSixteenWordsDetermineBlock := by
  intro b b' h
  have hbyte (k : Fin 64) : b[k] = b'[k] := by
    obtain ⟨j, m, rfl⟩ := exists_byteIndex_eq k
    have hgroup : groupWord (fun k => b[k]) j = groupWord (fun k => b'[k]) j := by
      rw [← scheduleOf_loadIndex, ← scheduleOf_loadIndex, h j]
    exact groupWord_inj hgroup m
  exact Vector.ext fun k hk => hbyte ⟨k, hk⟩

theorem expandSchedule_toList (b : Vector Byte 64) : expandSchedule b.toList = .ok (scheduleOf b) :=
  dif_pos b.length_toList

theorem expandSchedule_of_length_ne {block : List Byte} (h : block.length ≠ 64) :
    expandSchedule block = .error (.notSixtyFourBytes block.length) :=
  dif_neg h

/-- Settles O42: the two branches of the length check. -/
theorem expandScheduleRejectsWrongLength : Obligations.ExpandScheduleRejectsWrongLength :=
  fun _ => ⟨fun b hb => hb ▸ expandSchedule_toList b, fun h => ⟨_, expandSchedule_of_length_ne h⟩⟩

end Sys2Proof.Machine

/-! The micro-operations CHK, LDW and EXP (spec/41_schedule_expander.md R75 to R77): the next state of each as one
record update, and what it leaves unchanged. -/

namespace Sys2Proof.Machine

theorem seqOf_ofNat_toNat (p : Phase) {n : Nat} (hn : n < 64) :
    (seqOf p (BitVec.ofNat 6 n)).toNat = p.code.toNat * 2 ^ 6 + n := by
  rw [seqOf, toNat_append_eq_add, BitVec.toNat_ofNat, Nat.mod_eq_of_lt hn]

/-- Within a phase the sequencer word goes up by one with the index. -/
theorem seqOf_ofNat_succ_toNat (p : Phase) {n : Nat} (hn : n + 1 < 64) :
    (seqOf p (BitVec.ofNat 6 (n + 1))).toNat = p.code.toNat * 2 ^ 6 + 1 + n := by
  rw [seqOf_ofNat_toNat p hn, Nat.add_comm n, Nat.add_assoc]

/-- Two ways on differ in SEQ alone. -/
theorem State.ite_goto (c : Prop) [Decidable c] (s : State) (p q : Phase) (m n : Nat) :
    (if c then s.goto p m else s.goto q n) =
      { s with seq := if c then seqOf p (BitVec.ofNat 6 m) else seqOf q (BitVec.ofNat 6 n) } := by
  split <;> rfl

/-- Settles O13: the two ends of CHK. With LEN = 64 only H and SEQ are written. -/
theorem chkChecksLengthAndLoadsIV : Obligations.ChkChecksLengthAndLoadsIV := by
  refine ⟨rfl, fun s => ⟨fun hlen => ?_, fun hlen => ?_⟩⟩
  · refine ⟨(s.setHash s.config.iv).goto .load 0, if_pos hlen, State.setHash_at s s.config.iv, rfl, ?_⟩
    simp [State.sameBlock, State.sameRegs, State.sameTemps, State.sameStatus, State.sameOutside]
  · exact (if_neg hlen).trans (congrArg _ s.raiseInvalidInput_eq)

theorem execLdw_eq (j : Fin 16) (s : State) :
    exec (.ldw j) s = .next { s.setW (loadIndex j) (groupWord s.readBlk j) with
      seq := if j.val < 15 then seqOf .load (BitVec.ofNat 6 (j.val + 1)) else seqOf .expand (BitVec.ofNat 6 16) } :=
  congrArg _ (State.ite_goto _ _ _ _ _ _)

theorem execExp_eq {i : Fin 64} (hi : 16 ≤ i.val) (s : State) :
    exec (.exp i) s = .next { s.setW i (scheduleWord s.readW i) with
      seq := if i.val < 63 then seqOf .expand (BitVec.ofNat 6 (i.val + 1)) else seqOf .init (BitVec.ofNat 6 0) } :=
  (if_pos hi).trans (congrArg _ (State.ite_goto _ _ _ _ _ _))

/-- Writing one schedule word and SEQ leaves every other store, register, flag and the host's side as it was. -/
theorem State.setW_seq_frame (s : State) (i : Fin 64) (v : Word) (q : BitVec 10) :
    let t : State := { s.setW i v with seq := q }
    s.sameBlock t ∧ t.trace = s.trace ∧ t.hash = s.hash ∧ s.sameRegs t ∧ s.sameTemps t ∧ s.sameStatus t ∧
      s.sameOutside t := by
  simp [State.sameBlock, State.sameRegs, State.sameTemps, State.sameStatus, State.sameOutside]

theorem groupWord_readBlk_of_some {s : State} {j : Fin 16} {b0 b1 b2 b3 : Byte}
    (h0 : s.blk.read (4 * j.val) = some b0) (h1 : s.blk.read (4 * j.val + 1) = some b1)
    (h2 : s.blk.read (4 * j.val + 2) = some b2) (h3 : s.blk.read (4 * j.val + 3) = some b3) :
    groupWord s.readBlk j = be32 b0 b1 b2 b3 := by
  rw [groupWord, State.readBlk_of_some (j := byteIndex j 0) h0, State.readBlk_of_some (j := byteIndex j 1) h1,
    State.readBlk_of_some (j := byteIndex j 2) h2, State.readBlk_of_some (j := byteIndex j 3) h3]

/-- Settles O14: one word written, from bytes that hold values by the weights of `be32`. -/
theorem ldwLoadsBigEndianWord : Obligations.LdwLoadsBigEndianWord := by
  refine fun j s => ⟨seqOf_ofNat_toNat .load (by omega), _, execLdw_eq j s, ?_, ?_, fun k hk => ?_,
    State.setW_seq_frame s _ _ _⟩
  · split
    · exact seqOf_ofNat_succ_toNat _ (by omega)
    · rfl
  · intro b0 b1 b2 b3 h0 h1 h2 h3
    refine ⟨_, ?_, (congrArg _ (groupWord_readBlk_of_some h0 h1 h2 h3)).trans (be32_toNat b0 b1 b2 b3)⟩
    simp [loadIndex]
  · have hne : k ≠ loadIndex j := fun h => hk (congrArg Fin.val h)
    exact (State.setW_at s (loadIndex j) k _).trans (if_neg hne)

theorem State.readW_backIndex_of_some {s : State} {i : Fin 64} {n : Nat} {x : Word}
    (h : s.w[i.val - n]? = some (some x)) : s.readW (backIndex i n) = x :=
  State.readW_of_some (Vector.getElem_eq_iff.2 h)

/-- Settles O15: one word written, from words that hold values by the recurrence's sum mod 2^32. -/
theorem expDerivesWordByRecurrence : Obligations.ExpDerivesWordByRecurrence := by
  refine fun i s hi => ⟨seqOf_ofNat_toNat .expand i.isLt, _, execExp_eq hi s, ?_, ?_, fun k hk => ?_,
    State.setW_seq_frame s _ _ _⟩
  · split
    · exact seqOf_ofNat_succ_toNat _ (by omega)
    · rfl
  · intro x2 x7 x15 x16 h2 h7 h15 h16
    refine ⟨_, (State.setW_at s i i _).trans (if_pos rfl), ?_⟩
    rw [scheduleWord_toNat, State.readW_backIndex_of_some h2, State.readW_backIndex_of_some h7,
      State.readW_backIndex_of_some h15, State.readW_backIndex_of_some h16]
  · exact (State.setW_at s i k _).trans (if_neg hk)

end Sys2Proof.Machine

/-! The rounds as a pure function (spec/42_round_engine.md R88, R89): every record is the snapshot of one round on the
registers before it, and those are the registers of the record before it, or for record 0 the words of `init`. -/

namespace Sys2Proof.Machine

/-- The eight registers that a trace record shows (30 R52, slots 2 to 9). -/
def TraceRecord.regs (q : TraceRecord) : WorkingRegs := ⟨q.a, q.b, q.c, q.d, q.e, q.f, q.g, q.h⟩

@[simp] theorem snapshot_regs (i : Fin 64) (w : Word) (r : WorkingRegs) (x y : Word) :
    (snapshot i w r x y).regs = r := rfl

theorem snapshot_idx_toNat (i : Fin 64) (w : Word) (r : WorkingRegs) (x y : Word) :
    (snapshot i w r x y).idx.toNat = i.val := by
  have hi : i.val < 2 ^ 32 := by omega
  exact (BitVec.toNat_ofNat i.val 32).trans (Nat.mod_eq_of_lt hi)

theorem roundT1_toNat (r : WorkingRegs) (k w : Word) :
    (roundT1 r k w).toNat =
      (r.h.toNat + (bigSigma1 r.e).toNat + (ch r.e r.f r.g).toNat + k.toNat + w.toNat) % 2 ^ 32 := by
  simp only [roundT1, BitVec.toNat_add, Nat.mod_add_mod]

theorem roundT2_toNat (r : WorkingRegs) :
    (roundT2 r).toNat = ((bigSigma0 r.a).toNat + (maj r.a r.b r.c).toNat) % 2 ^ 32 :=
  BitVec.toNat_add _ _

theorem add32_toNat (x y : Word) : (add32 x y).toNat = (x.toNat + y.toNat) % 2 ^ 32 :=
  BitVec.toNat_add x y

theorem regsBefore_succ (k w : Vector Word 64) (init : Vector Word 8) (i : Fin 64) :
    regsBefore k w init (i.val + 1) = rotateRegs (regsBefore k w init i.val)
      (roundT1 (regsBefore k w init i.val) k[i] w[i]) (roundT2 (regsBefore k w init i.val)) :=
  dif_pos i.isLt

/-- The record of round i is the snapshot of one round on the registers before it. -/
theorem recordOf_eq_snapshot (k w : Vector Word 64) (init : Vector Word 8) (i : Fin 64) :
    recordOf k w init i =
      let r := regsBefore k w init i.val
      let x := roundT1 r k[i] w[i]
      let y := roundT2 r
      snapshot i w[i] (rotateRegs r x y) x y := by
  simp only [recordOf, regsBefore_succ]

theorem recordOf_regs (k w : Vector Word 64) (init : Vector Word 8) (i : Fin 64) :
    (recordOf k w init i).regs = regsBefore k w init (i.val + 1) :=
  snapshot_regs i _ _ _ _

theorem runRounds_record (k w : Vector Word 64) (init : Vector Word 8) (i : Fin 64) :
    (runRounds k w init).1[i] = recordOf k w init i :=
  Vector.getElem_ofFn i.isLt

/-- The registers before round i: those of `init`, or those of the record before. -/
theorem regsBefore_eq_previous (k w : Vector Word 64) (init : Vector Word 8) (i : Fin 64) :
    regsBefore k w init i.val =
      if i.val = 0 then regsOf init else ((runRounds k w init).1[backIndex i 1]).regs := by
  split
  · next hi => rw [hi]; rfl
  · next hi =>
    have hback : (backIndex i 1).val + 1 = i.val := Nat.sub_add_cancel (Nat.pos_of_ne_zero hi)
    rw [runRounds_record, recordOf_regs, hback]

/-- Settles O39: a record is a snapshot of one round, which rotates the registers before it. -/
theorem traceRecordsAreConsistent : Obligations.TraceRecordsAreConsistent := by
  intro k w init i records r p
  have hr : r = _ := (runRounds_record k w init i).trans (recordOf_eq_snapshot k w init i)
  have hp : p = regsBefore k w init i.val := (regsBefore_eq_previous k w init i).symm
  rw [hr, hp]
  exact ⟨add32_toNat _ _, add32_toNat _ _, rfl, rfl, rfl, rfl, rfl, rfl, snapshot_idx_toNat _ _ _ _ _, rfl⟩

/-- Settles O40: the registers of record i are those before round i + 1, and those of record 63 the last ones. -/
theorem replayFromAnyRecordGivesTheNext : Obligations.ReplayFromAnyRecordGivesTheNext := by
  intro k w init records regs
  have hregs (i : Fin 64) : regs records[i] = regsBefore k w init (i.val + 1) :=
    (congrArg _ (runRounds_record k w init i)).trans (recordOf_regs k w init i)
  refine ⟨fun i n hn => ?_, (hregs 63).symm⟩
  rw [hregs, ← hn]
  exact (runRounds_record k w init n).trans (recordOf_eq_snapshot k w init n)

end Sys2Proof.Machine

/-! The micro-operations INI and RND (spec/42_round_engine.md R85, R86). -/

namespace Sys2Proof.Machine

/-- Settles O17: only a..h and SEQ are written. -/
theorem iniCopiesHashToRegs : Obligations.IniCopiesHashToRegs := by
  refine ⟨rfl, fun s => ⟨(s.setRegs (regsOf s.readHash)).goto .rounds 0, rfl, rfl, fun v hv => ?_, ?_⟩⟩
  · rw [State.readHash_of_some hv]
    exact ⟨rfl, rfl, rfl, rfl, rfl, rfl, rfl, rfl⟩
  · simp [State.sameBlock, State.sameTemps, State.sameStatus, State.sameOutside]

/-- What one round leaves in the stores: the registers after it, the temporaries, and its record. -/
def State.setRound (s : State) (i : Fin 64) (w : Word) (r : WorkingRegs) (x y : Word) : State :=
  ((s.setRegs r).setTemps x y).setTrace i (snapshot i w r x y)

theorem execRnd_eq (i : Fin 64) (s : State) :
    exec (.rnd i) s =
      let x := roundT1 s.readRegs s.config.k[i] (s.readW i)
      let y := roundT2 s.readRegs
      .next { s.setRound i (s.readW i) (rotateRegs s.readRegs x y) x y with
        seq := if i.val < 63 then seqOf .rounds (BitVec.ofNat 6 (i.val + 1)) else seqOf .final (BitVec.ofNat 6 0) } :=
  congrArg _ (State.ite_goto _ _ _ _ _ _)

theorem State.setRound_trace_at (s : State) (i j : Fin 64) (w : Word) (r : WorkingRegs) (x y : Word) :
    (s.setRound i w r x y).trace[j] = if j = i then some (snapshot i w r x y) else s.trace[j] :=
  State.setTrace_at _ i j _

/-- One round and SEQ leave the block, W, H, the status and the outside as they were. -/
theorem State.setRound_seq_frame (s : State) (i : Fin 64) (w : Word) (r : WorkingRegs) (x y : Word) (q : BitVec 10) :
    let t : State := { s.setRound i w r x y with seq := q }
    s.sameBlock t ∧ t.w = s.w ∧ t.hash = s.hash ∧ s.sameStatus t ∧ s.sameOutside t := by
  simp [State.setRound, State.sameBlock, State.sameStatus, State.sameOutside]

/-- Settles O18: with the registers and the word read, the two sums, the rotation and the snapshot are those of R86. -/
theorem rndDoesOneRound : Obligations.RndDoesOneRound := by
  refine fun i s => ⟨seqOf_ofNat_toNat .rounds i.isLt, _, execRnd_eq i s, ?seq, fun r w hr hw => ?round,
    fun k hk => ?records, State.setRound_seq_frame s i _ _ _ _ _⟩
  case seq =>
    split
    · exact seqOf_ofNat_succ_toNat .rounds (by omega)
    · rfl
  case round =>
    obtain ⟨ha, hb, hc, hd, he, hf, hg, hh⟩ := hr
    rw [State.readRegs_of_some ha hb hc hd he hf hg hh, State.readW_of_some hw]
    exact ⟨_, _, _, _, rfl, rfl, roundT1_toNat _ _ _, roundT2_toNat _, add32_toNat _ _, add32_toNat _ _,
      ⟨rfl, rfl, rfl, rfl, rfl, rfl, rfl, rfl⟩, (State.setRound_trace_at s i i _ _ _ _).trans (if_pos rfl)⟩
  case records => exact (State.setRound_trace_at s i k _ _ _ _).trans (if_neg hk)

end Sys2Proof.Machine

/-! TRACE along a step (spec/42_round_engine.md R87): every operation but RND k leaves record k or drops it. -/

namespace Sys2Proof.Machine

@[simp] theorem State.raiseInvalidInput_trace (s : State) : s.raiseInvalidInput.trace = s.trace := by
  simp [State.raiseInvalidInput]

@[simp] theorem State.acceptStart_trace (s : State) : s.acceptStart.trace = Vector.replicate 64 none := by
  simp [State.acceptStart]

theorem awaitStart_trace (p : Phase) (s : State) (k : Fin 64) :
    (awaitStart p s).trace[k] = s.trace[k] ∨ (awaitStart p s).trace[k] = none := by
  cases hs : s.start with
  | false => simp [awaitStart_idle p s hs]
  | true => simp [awaitStart_start p s hs]

@[simp] theorem hostLoad_trace (bytes : List Byte) (s : State) : (hostLoad bytes s).trace = s.trace := by
  unfold hostLoad
  split
  · rfl
  · simp

/-- A transaction leaves TRACE, but for H_RESET, which drops every record. -/
theorem transact_trace (x : Transaction) (s : State) (k : Fin 64) :
    (transact x s).trace[k] = s.trace[k] ∨ (transact x s).trace[k] = none := by
  by_cases hx : x = .start
  · subst hx; exact .inl rfl
  · obtain ⟨bytes, -, ht⟩ | ⟨-, ht⟩ | ⟨r, ht⟩ := transact_cases s hx <;> simp [ht]

theorem turnOf_sequencer_trace {s s' : State} (h : turnOf s = .sequencer s') : s'.trace = s.trace := by
  rw [turnOf_sequencer h]

/-- A micro-operation other than RND k leaves record k or drops it. -/
theorem exec_trace {i : Instr} {s u : State} {k : Fin 64} (h : exec i s = .next u) (hi : i ≠ .rnd k) :
    u.trace[k] = s.trace[k] ∨ u.trace[k] = none := by
  cases i with
  | wait => cases h; exact awaitStart_trace _ s k
  | chk => obtain ⟨-, rfl⟩ | ⟨-, rfl⟩ := execChk_next h <;> simp
  | ldw j => cases h; split <;> simp
  | exp n => obtain ⟨-, rfl⟩ := execExp_next h; split <;> simp
  | ini => cases h; simp
  | rnd n =>
    have hkn : k ≠ n := fun hkn => hi (hkn ▸ rfl)
    cases (execRnd_eq n s).symm.trans h
    exact .inl ((State.setRound_trace_at s n k _ _ _ _).trans (if_neg hkn))
  | fin => cases h; simp
  | hlt => cases h; exact awaitStart_trace _ s k
  | erh => cases h; exact awaitStart_trace _ s k

/-- A record that was not there before is neither a kept nor a dropped one. -/
theorem not_kept_or_dropped {old new : Option TraceRecord} {r : TraceRecord} (hnew : new = some r)
    (hold : old ≠ some r) : ¬(new = old ∨ new = none) := by
  rintro (hkept | hdropped)
  · exact hold (hkept.symm.trans hnew)
  · cases hnew.symm.trans hdropped

/-- Settles O31: the host's transactions and the other micro-operations keep or drop record k. -/
theorem traceRecordWrittenOnlyByItsRound : Obligations.TraceRecordWrittenOnlyByItsRound := by
  intro s t k r h ht hs
  obtain ⟨x, rest, -, -, rfl⟩ | ⟨s', i, u, hturn, hdec, hexec, rfl⟩ := step_next h
  · exact absurd (transact_trace x _ k) (not_kept_or_dropped ht hs)
  · have hs' : s'.trace[k] ≠ some r := turnOf_sequencer_trace hturn ▸ hs
    have hu : u.trace[k] = some r := ht
    have hi : i = .rnd k := by
      by_contra hi
      exact not_kept_or_dropped hu hs' (exec_trace hexec hi)
    rw [hdec, hi]

end Sys2Proof.Machine

/-! FIN and the digest (spec/43_finalize.md R95, R96). -/

namespace Sys2Proof.Machine

theorem addRegs_at (v : Vector Word 8) (r : WorkingRegs) (k : Fin 8) :
    (addRegs v r)[k] =
      add32 v[k] (#v[r.a, r.b, r.c, r.d, r.e, r.f, r.g, r.h] : Vector Word 8)[k] := by
  fin_cases k <;> rfl

/-- Settles O19: FIN writes H, VALID and SEQ alone, and H[k] is the sum of the two words that it reads. -/
theorem finAddsRegsIntoHash : Obligations.FinAddsRegsIntoHash := by
  refine ⟨rfl, fun s => ⟨(s.setHash (addRegs s.readHash s.readRegs)).setValid.goto .done 0, rfl, rfl, rfl,
    fun v r hv hr k => ?sum, ?frame⟩⟩
  case sum =>
    obtain ⟨ha, hb, hc, hd, he, hf, hg, hh⟩ := hr
    rw [State.readHash_of_some hv, State.readRegs_of_some ha hb hc hd he hf hg hh]
    exact ⟨_, State.setHash_at s _ k, (congrArg _ (addRegs_at v r k)).trans (add32_toNat _ _)⟩
  case frame => simp [State.sameBlock, State.sameRegs, State.sameTemps, State.sameOutside]

theorem bytes32_at (x : Word) (m : Fin 4) : (bytes32 x)[m.val]? = some (x.extractLsb' (24 - 8 * m.val) 8) := by
  fin_cases m <;> rfl

/-- Each of the eight words is four bytes of the digest. -/
theorem digestOf_at (v : Vector Word 8) (k : Fin 8) (m : Fin 4) :
    (digestOf v)[4 * k.val + m.val]? = (bytes32 v[k])[m.val]? := by
  fin_cases k <;> fin_cases m <;> rfl

/-- Settles O41: byte 4k + m of the digest is byte m of word k, eight bits of it. -/
theorem digestIsBigEndian : Obligations.DigestIsBigEndian := fun v =>
  ⟨rfl, fun k m => ⟨_, (digestOf_at v k m).trans (bytes32_at v[k] m), extractLsb'_toNat_eq_div_mod _ _ 8⟩⟩

end Sys2Proof.Machine

/-! Runs through the host's moves (spec/45_host_interface.md R113): micro-operations and transactions counted along the
list of moves, and the accepting step of a run (spec/44_sequencer_control.md R103). -/

namespace Sys2Proof.Machine

/-- From `s`, `t` is reached after `n` steps: `ops` micro-operations and the host's transactions between them. -/
def State.advances (s : State) (ops n : Nat) (t : State) : Prop :=
  core.run n s = .next t ∧ n = ops + (s.pending.take n).countP HostMove.isTransaction ∧ t.pending = s.pending.drop n

theorem run_succ {s u : State} (h : step s = .next u) (n : Nat) : core.run (n + 1) s = core.run n u := by
  have hstep : core.step s = .next u := h
  simp only [Host.Core.run, hstep]

theorem run_add {m : Nat} {s u : State} (h : core.run m s = .next u) (n : Nat) :
    core.run (m + n) s = core.run n u := by
  induction m generalizing s with
  | zero => cases h; rw [Nat.zero_add]
  | succ m ih =>
    simp only [Host.Core.run] at h
    split at h
    · next v hstep => rw [Nat.succ_add, run_succ hstep, ih h]
    · cases h
    · cases h

theorem State.advances_refl (s : State) : s.advances 0 0 s := ⟨rfl, by simp, rfl⟩

theorem State.advances.trans {s u t : State} {a b m n : Nat} (h : s.advances a m u) (h' : u.advances b n t) :
    s.advances (a + b) (m + n) t := by
  obtain ⟨hrun, hcount, hpending⟩ := h
  obtain ⟨hrun', hcount', hpending'⟩ := h'
  refine ⟨(run_add hrun n).trans hrun', ?_, by rw [hpending', hpending, List.drop_drop]⟩
  rw [hpending] at hcount'
  rw [List.take_add, List.countP_append]
  omega

/-- A move that is not to come does not come up along the run. -/
theorem State.advances.not_mem_pending {s t : State} {ops n : Nat} {move : HostMove} (h : s.advances ops n t)
    (hmove : move ∉ s.pending) : move ∉ t.pending := by
  obtain ⟨-, -, hpending⟩ := h
  rw [hpending]
  exact fun hmem => hmove (List.mem_of_mem_drop hmem)

@[simp] theorem hostLoad_pending (bytes : List Byte) (s : State) : (hostLoad bytes s).pending = s.pending := by
  unfold hostLoad
  split
  · rfl
  · simp

@[simp] theorem transact_pending (x : Transaction) (s : State) : (transact x s).pending = s.pending := by
  by_cases hx : x = .start
  · subst hx; rfl
  · obtain ⟨bytes, -, ht⟩ | ⟨-, ht⟩ | ⟨r, ht⟩ := transact_cases s hx <;> simp [ht]

theorem isTransaction_act {x : Transaction} (hx : x ≠ .start) : (HostMove.act x).isTransaction = true := by
  cases x with
  | start => exact absurd rfl hx
  | load | readStatus | readW | readTrace | readRegs | readHash | readDigest | readBlk | reset => rfl

/-- The host's turn takes one transaction off the list. -/
theorem State.advances_of_host {s t : State} (hturn : turnOf s = .host t) : s.advances 0 1 t := by
  obtain ⟨x, rest, hpending, hx, ht⟩ := turnOf_host hturn
  refine ⟨run_succ (step_of_host hturn) 0, ?_, ?_⟩
  · simp [hpending, isTransaction_act hx]
  · simp [hpending, ht]

theorem turnOf_host_length {s t : State} (hturn : turnOf s = .host t) : t.pending.length < s.pending.length := by
  obtain ⟨x, rest, hpending, -, ht⟩ := turnOf_host hturn
  simp [hpending, ht]

/-- The sequencer's turn takes at most one move off the list, and no transaction. -/
theorem turnOf_sequencer_pending {s s' : State} (h : turnOf s = .sequencer s') :
    s'.pending = s.pending.drop 1 ∧ (s.pending.take 1).countP HostMove.isTransaction = 0 := by
  unfold turnOf at h
  split at h <;> cases h
  all_goals next hp => simp [hp, HostMove.isTransaction]

theorem State.advances_of_sequencer {s s' t : State} (hturn : turnOf s = .sequencer s')
    (hrun : runSequencer s' = .next t) (ht : t.pending = s'.pending) : s.advances 1 1 t := by
  obtain ⟨hpending, hcount⟩ := turnOf_sequencer_pending hturn
  exact ⟨run_succ ((step_of_sequencer hturn).trans hrun) 0, by rw [hcount], ht.trans hpending⟩

/-- A run is the accepting step and what follows it. -/
theorem runsTo_of_advances {s u t : State} {rest : List HostMove} {ops n : Nat} (hstep : step s = .next u)
    (hpending : u.pending = rest) (h : u.advances ops n t) : runsTo s rest ops (n + 1) t := by
  obtain ⟨hrun, hcount, ht⟩ := h
  rw [hpending] at hcount ht
  refine ⟨(run_succ hstep n).trans hrun, ?_, ht⟩
  rw [Nat.add_sub_cancel]
  omega

/-- A start that is presented is what the micro-operation sees, with the rest of the moves to come. -/
theorem State.presents.step_eq {s : State} {rest : List HostMove} (h : s.presents rest) :
    step s = runSequencer { s with pending := rest, start := true } := by
  obtain hmove | ⟨hstart, hpending, rfl⟩ := h
  · exact step_of_start hmove
  · rw [step_of_no_move hpending, ← hstart, ← hpending]

theorem exec_of_waits_start {i : Instr} {s : State} (hi : waits i) (hs : s.start = true) :
    exec i s = .next s.acceptStart := by
  obtain rfl | rfl | rfl := hi <;> exact congrArg _ (awaitStart_start _ s hs)

/-- What the accepting step leaves: CHECK entered, the results dropped, the rest of the moves to come. -/
def State.accepted (s : State) (rest : List HostMove) : State :=
  { s.acceptStart with pending := rest, start := false }

theorem step_of_presents {s : State} {i : Instr} {rest : List HostMove} (hdec : decode s.seq = .ok i) (hi : waits i)
    (h : s.presents rest) : step s = .next (s.accepted rest) := by
  calc step s
    _ = runSequencer { s with pending := rest, start := true } := h.step_eq
    _ = dropStart (exec i { s with pending := rest, start := true }) := runSequencer_of_ok hdec
    _ = .next (s.accepted rest) := congrArg dropStart (exec_of_waits_start hi rfl)

theorem State.acceptStart_noResults (s : State) : s.acceptStart.noResults := by
  simp [State.noResults, State.acceptStart]

/-- While BUSY = 1 a transaction other than H_RESET and H_START hands out an answer or has no effect (45 R120). -/
theorem transact_of_busy {x : Transaction} {s : State} (hbusy : s.busy = true) (hx : x ≠ .start) (hr : x ≠ .reset) :
    transact x s = { s with replies := (transact x s).replies } := by
  obtain ⟨bytes, -, ht⟩ | ⟨hx', -⟩ | ⟨r, ht⟩ := transact_cases s hx
  · rw [ht, hostLoad, if_pos hbusy]
  · exact absurd hx' hr
  · rw [ht]; rfl

end Sys2Proof.Machine

/-! The stores along an invocation on one block (spec/44_sequencer_control.md R106): `State.expanding` and
`State.rounding` of the invariant with the block named, and what each micro-operation makes of them. -/

namespace Sys2Proof.Machine

/-- The stores with words 0..n-1 of this block's schedule written, and nothing else since CHK. -/
def State.expandingOf (s : State) (block : Vector Byte 64) (n : Nat) : Prop :=
  s.holdsHash s.config.iv ∧ s.holdsWords n (scheduleOf block) ∧ s.holdsTrace 0 (scheduleOf block) ∧
    s.a = none ∧ s.b = none ∧ s.c = none ∧ s.d = none ∧ s.e = none ∧ s.f = none ∧ s.g = none ∧ s.h = none

/-- The stores with this block's schedule complete and n rounds done. -/
def State.roundingOf (s : State) (block : Vector Byte 64) (n : Nat) : Prop :=
  s.holdsHash s.config.iv ∧ s.holdsWords 64 (scheduleOf block) ∧
    s.holdsRegs (regsBefore s.config.k (scheduleOf block) s.config.iv n) ∧ s.holdsTrace n (scheduleOf block)

theorem State.expanding_iff {s : State} {n : Nat} :
    s.expanding n ↔ ∃ block, s.holdsBlock block ∧ s.expandingOf block n := Iff.rfl

theorem State.rounding_iff {s : State} {n : Nat} :
    s.rounding n ↔ ∃ block, s.holdsBlock block ∧ s.roundingOf block n := Iff.rfl

/-- The elements below i and then element i hold values: the elements below i + 1 do. -/
theorem ite_eq_or_lt {α : Type} (f : Fin 64 → α) (i k : Fin 64) :
    (if k = i then some (f i) else if k.val < i.val then some (f k) else none) =
      if k.val < i.val + 1 then some (f k) else none := by
  by_cases hk : k = i
  · subst hk; simp
  · have hlt : k.val < i.val + 1 ↔ k.val < i.val := by omega
    simp only [hk, hlt, if_false]

theorem State.holdsRegs.readRegs {s : State} {r : WorkingRegs} (h : s.holdsRegs r) : s.readRegs = r := by
  obtain ⟨ha, hb, hc, hd, he, hf, hg, hh⟩ := h
  exact State.readRegs_of_some ha hb hc hd he hf hg hh

/-- CHK: with H = IV no word is written yet. -/
theorem State.noResults.expandingOf {s : State} (h : s.noResults) (block : Vector Byte 64) :
    (s.setHash s.config.iv).expandingOf block 0 := by
  obtain ⟨hw, htrace, -, ha, hb, hc, hd, he, hf, hg, hh, ht1, ht2⟩ := h
  refine ⟨State.setHash_at s s.config.iv, fun k => ?_, ⟨fun k => ?_, ht1, ht2⟩, ha, hb, hc, hd, he, hf, hg, hh⟩
  · simp [hw]
  · simp [htrace]

/-- LDW and EXP: the next word of the schedule. -/
theorem State.expandingOf.setW {s : State} {block : Vector Byte 64} {i : Fin 64}
    (h : s.expandingOf block i.val) : (s.setW i (scheduleOf block)[i]).expandingOf block (i.val + 1) := by
  obtain ⟨hhash, hwords, hrest⟩ := h
  refine ⟨hhash, fun k => ?_, hrest⟩
  rw [State.setW_at, hwords k]
  exact ite_eq_or_lt (fun k => (scheduleOf block)[k]) i k

/-- The word that LDW j makes is word j of the schedule. -/
theorem State.holdsBlock.groupWord_eq {s : State} {block : Vector Byte 64} (h : s.holdsBlock block) (j : Fin 16) :
    groupWord s.readBlk j = (scheduleOf block)[loadIndex j] := by
  have hread : s.readBlk = fun k => block[k] := funext fun k => State.readBlk_of_some (h.2 k)
  rw [hread, scheduleOf_loadIndex]

theorem State.readW_of_holdsWords {s : State} {n : Nat} {w : Vector Word 64} (h : s.holdsWords n w) {k : Fin 64}
    (hk : k.val < n) : s.readW k = w[k] :=
  State.readW_of_some ((h k).trans (if_pos hk))

/-- The word that EXP i makes is word i of the schedule. -/
theorem State.expandingOf.scheduleWord_eq {s : State} {block : Vector Byte 64} {i : Fin 64} (hi : 16 ≤ i.val)
    (h : s.expandingOf block i.val) : scheduleWord s.readW i = (scheduleOf block)[i] := by
  obtain ⟨-, hwords, -⟩ := h
  rw [scheduleOf_recurrence block hi]
  exact scheduleWord_congr hi fun k hk => State.readW_of_holdsWords hwords hk

/-- INI: the registers before round 0. -/
theorem State.expandingOf.setRegs {s : State} {block : Vector Byte 64} (h : s.expandingOf block 64) :
    (s.setRegs (regsOf s.readHash)).roundingOf block 0 := by
  obtain ⟨hhash, hwords, htrace, -⟩ := h
  rw [State.readHash_of_some hhash]
  exact ⟨hhash, hwords, ⟨rfl, rfl, rfl, rfl, rfl, rfl, rfl, rfl⟩, htrace⟩

/-- RND i: one round more. -/
theorem State.roundingOf.setRound {s : State} {block : Vector Byte 64} {i : Fin 64}
    (h : s.roundingOf block i.val) :
    let x := roundT1 s.readRegs s.config.k[i] (s.readW i)
    let y := roundT2 s.readRegs
    (s.setRound i (s.readW i) (rotateRegs s.readRegs x y) x y).roundingOf block (i.val + 1) := by
  obtain ⟨hhash, hwords, hregs, htrace, -, -⟩ := h
  have hmod : i.val % 64 = i.val := Nat.mod_eq_of_lt i.isLt
  rw [hregs.readRegs, State.readW_of_holdsWords hwords i.isLt]
  intro x y
  refine ⟨hhash, hwords, ?regs, fun k => ?record, ?t1, rfl⟩
  case regs =>
    rw [regsBefore_succ]
    exact ⟨rfl, rfl, rfl, rfl, rfl, rfl, rfl, rfl⟩
  case record =>
    have hrecord : snapshot i (scheduleOf block)[i] (rotateRegs _ x y) x y =
        recordOf s.config.k (scheduleOf block) s.config.iv i := (recordOf_eq_snapshot _ _ _ i).symm
    rw [State.setRound_trace_at, htrace k, hrecord]
    exact ite_eq_or_lt (recordOf s.config.k (scheduleOf block) s.config.iv) i k
  case t1 =>
    simp [State.setRound, x, hmod]

/-- After round i the temporaries are those of its record. -/
theorem State.holdsTrace.temps {s : State} {w : Vector Word 64} {i : Fin 64} (h : s.holdsTrace (i.val + 1) w) :
    s.t1 = some (recordOf s.config.k w s.config.iv i).t1 ∧ s.t2 = some (recordOf s.config.k w s.config.iv i).t2 := by
  obtain ⟨-, ht1, ht2⟩ := h
  have hmod : i.val % 64 = i.val := Nat.mod_eq_of_lt i.isLt
  simp only [Nat.add_sub_cancel, hmod] at ht1 ht2
  exact ⟨ht1, ht2⟩

/-- FIN: the results of the block. -/
theorem State.roundingOf.holdsResults {s : State} {block : Vector Byte 64} (h : s.roundingOf block 64) :
    (s.setHash (addRegs s.readHash s.readRegs)).setValid.holdsResults block := by
  obtain ⟨hhash, hwords, hregs, htrace⟩ := h
  obtain ⟨ht1, ht2⟩ := State.holdsTrace.temps (i := 63) htrace
  obtain ⟨hrecords, -⟩ := htrace
  have hrecord := runRounds_record s.config.k (scheduleOf block) s.config.iv
  rw [← hrecord] at ht1 ht2
  rw [hregs.readRegs, State.readHash_of_some hhash]
  refine ⟨hwords, fun k => ?_, hregs, ht1, ht2, State.setHash_at s _⟩
  have hk := (hrecords k).trans (if_pos k.isLt)
  rw [← hrecord] at hk
  exact hk

end Sys2Proof.Machine

/-! An invocation micro-operation by micro-operation (spec/44_sequencer_control.md R106, R108): each one leaves the
stores as the next one needs them, with one micro-operation less to go. -/

namespace Sys2Proof.Machine

/-- How many micro-operations an invocation has to go, this one included: 131 from CHK, none in a waiting phase. -/
def opsLeft : Instr → Nat
  | .chk => 131
  | .ldw j => 130 - j.val
  | .exp i => 130 - i.val
  | .ini => 66
  | .rnd i => 65 - i.val
  | .fin => 1
  | .wait => 0
  | .hlt => 0
  | .erh => 0

/-- What the stores hold before micro-operation `i` of an invocation on this block, and in DONE after it. -/
def State.storesOf (s : State) (block : Vector Byte 64) : Instr → Prop
  | .chk => s.noResults
  | .ldw j => s.expandingOf block j.val
  | .exp i => s.expandingOf block i.val
  | .ini => s.expandingOf block 64
  | .rnd i => s.roundingOf block i.val
  | .fin => s.roundingOf block 64
  | .hlt => s.valid = true ∧ s.holdsResults block
  | .wait => False
  | .erh => False

theorem busy_of_opsLeft {s : State} {i : Instr} (hseq : s.seq = encode i) (hi : opsLeft i ≠ 0) : s.busy = true := by
  cases i with
  | wait | hlt | erh => exact absurd rfl hi
  | chk | ldw | exp | ini | rnd | fin => simp [State.busy, hseq, encode]

/-- A micro-operation of an invocation goes on to one that finds the stores as it needs them and has one less to go;
ERR and the host's moves stay. -/
theorem exec_storesOf {s : State} {block : Vector Byte 64} {i : Instr} (hblock : s.holdsBlock block)
    (hwf : WellFormed i) (hleft : opsLeft i ≠ 0) (h : s.storesOf block i) :
    ∃ i' t, exec i s = .next t ∧ t.seq = encode i' ∧ WellFormed i' ∧ t.storesOf block i' ∧
      opsLeft i = opsLeft i' + 1 ∧ t.err = s.err ∧ t.pending = s.pending := by
  cases i with
  | wait | hlt | erh => exact absurd rfl hleft
  | chk =>
    obtain ⟨hlen, -⟩ := hblock
    exact ⟨.ldw 0, _, if_pos hlen, rfl, rfl, State.noResults.expandingOf h block, rfl, rfl, rfl⟩
  | ldw j =>
    have hnext := State.expandingOf.setW (i := loadIndex j) h
    rw [← hblock.groupWord_eq] at hnext
    by_cases hj : j.val < 15
    · refine ⟨.ldw ⟨j.val + 1, by omega⟩, _, execLdw_eq j s, if_pos hj, rfl, hnext, ?_, rfl, rfl⟩
      simp only [opsLeft]; omega
    · obtain rfl : j = 15 := by omega
      exact ⟨.exp 16, _, execLdw_eq 15 s, rfl, rfl, hnext, rfl, rfl, rfl⟩
  | exp i =>
    have hi : 16 ≤ i.val := of_decide_eq_true hwf
    have hwf' : 16 ≤ i.val + 1 := Nat.le_succ_of_le hi
    have hnext := State.expandingOf.setW h
    rw [← State.expandingOf.scheduleWord_eq hi h] at hnext
    by_cases hlast : i.val < 63
    · refine ⟨.exp ⟨i.val + 1, by omega⟩, _, execExp_eq hi s, if_pos hlast, decide_eq_true hwf', hnext, ?_, rfl, rfl⟩
      simp only [opsLeft]; omega
    · obtain rfl : i = 63 := by omega
      exact ⟨.ini, _, execExp_eq hi s, rfl, rfl, hnext, rfl, rfl, rfl⟩
  | ini =>
    have hnext := State.expandingOf.setRegs h
    exact ⟨.rnd 0, _, rfl, rfl, rfl, hnext, rfl, rfl, rfl⟩
  | rnd i =>
    have hnext := State.roundingOf.setRound h
    by_cases hlast : i.val < 63
    · refine ⟨.rnd ⟨i.val + 1, by omega⟩, _, execRnd_eq i s, if_pos hlast, rfl, hnext, ?_, rfl, rfl⟩
      simp only [opsLeft]; omega
    · obtain rfl : i = 63 := by omega
      exact ⟨.fin, _, execRnd_eq 63 s, rfl, rfl, hnext, rfl, rfl, rfl⟩
  | fin => exact ⟨.hlt, _, rfl, rfl, rfl, ⟨rfl, State.roundingOf.holdsResults h⟩, rfl, rfl, rfl⟩

/-- An invocation on the block that `s₀` holds stands before micro-operation `i`: no error, the block buffer and the
configuration those of `s₀`. -/
structure State.Stage (s₀ : State) (block : Vector Byte 64) (i : Instr) (s : State) : Prop where
  dec : decode s.seq = .ok i
  err : s.err = false
  blk : s.blk = s₀.blk
  len : s.len = s₀.len
  config : s.config = s₀.config
  stores : s.storesOf block i

namespace State.Stage

variable {s₀ s : State} {block : Vector Byte 64} {i : Instr}

theorem busy (h : s₀.Stage block i s) (hi : opsLeft i ≠ 0) : s.busy = true :=
  busy_of_opsLeft (encode_of_decode h.dec).1.symm hi

/-- The host's side of the state is no part of the invocation. -/
theorem outside (h : s₀.Stage block i s) (pending : List HostMove) (start : Bool) (replies : List Reply) :
    s₀.Stage block i { s with pending := pending, start := start, replies := replies } :=
  ⟨h.dec, h.err, h.blk, h.len, h.config, h.stores⟩

theorem host {s' : State} (h : s₀.Stage block i s) (hi : opsLeft i ≠ 0) (hreset : .act .reset ∉ s.pending)
    (hturn : turnOf s = .host s') : s₀.Stage block i s' := by
  obtain ⟨x, rest, hpending, hx, rfl⟩ := turnOf_host hturn
  have hxreset : x ≠ .reset := by
    rintro rfl
    simp [hpending] at hreset
  rw [transact_of_busy (s := { s with pending := rest }) (h.busy hi) hx hxreset]
  exact h.outside _ _ _

theorem sequencer {s' : State} (h : s₀.Stage block i s) (hturn : turnOf s = .sequencer s') :
    s₀.Stage block i s' := by
  rw [turnOf_sequencer hturn]
  exact h.outside _ _ _

/-- One micro-operation of the invocation. -/
theorem runSequencer_next (hblock : s₀.holdsBlock block) (h : s₀.Stage block i s) (hleft : opsLeft i ≠ 0) :
    ∃ i' t, runSequencer s = .next t ∧ s₀.Stage block i' t ∧ opsLeft i = opsLeft i' + 1 ∧ t.pending = s.pending := by
  obtain ⟨hlen, hbytes⟩ := hblock
  have hblock' : s.holdsBlock block := ⟨h.len.trans hlen, fun j => h.blk ▸ hbytes j⟩
  obtain ⟨i', t, hexec, hseq, hwf, hstores, hleft', herr, hpending⟩ :=
    exec_storesOf hblock' (encode_of_decode h.dec).2 hleft h.stores
  obtain ⟨hblk, hlen'⟩ := exec_block hexec
  have hstage : s₀.Stage block i' t :=
    ⟨hseq ▸ decode_encode hwf, herr.trans h.err, hblk.trans h.blk, hlen'.trans h.len,
      (exec_config hexec).trans h.config, hstores⟩
  refine ⟨i', { t with start := false }, ?_, hstage.outside _ _ _, hleft', hpending⟩
  rw [runSequencer_of_ok h.dec, hexec, dropStart]

/-- The host's transactions, and then one micro-operation of the invocation. -/
theorem advances_one {s : State} (hblock : s₀.holdsBlock block) (h : s₀.Stage block i s) (hleft : opsLeft i ≠ 0)
    (hreset : .act .reset ∉ s.pending) :
    ∃ i' n t, s.advances 1 n t ∧ s₀.Stage block i' t ∧ opsLeft i = opsLeft i' + 1 := by
  cases hturn : turnOf s with
  | host s' =>
    have hhost := State.advances_of_host hturn
    obtain ⟨i', n, t, hone, hstage, hleft'⟩ :=
      advances_one hblock (h.host hleft hreset hturn) hleft (hhost.not_mem_pending hreset)
    exact ⟨i', _, t, hhost.trans hone, hstage, hleft'⟩
  | sequencer s' =>
    obtain ⟨i', t, hrun, hstage, hleft', hpending⟩ := (h.sequencer hturn).runSequencer_next hblock hleft
    exact ⟨i', 1, t, State.advances_of_sequencer hturn hrun hpending, hstage, hleft'⟩
termination_by s.pending.length
decreasing_by exact turnOf_host_length hturn

theorem eq_hlt (h : s₀.Stage block i s) (hleft : opsLeft i = 0) : i = .hlt := by
  have hstores := h.stores
  cases i with
  | hlt => rfl
  | wait | erh => exact hstores.elim
  | chk | ini | fin => cases hleft
  | ldw | exp | rnd => simp only [opsLeft] at hleft; omega

/-- An invocation runs to its end in DONE, whatever the host does short of a reset. -/
theorem advances_done (hblock : s₀.holdsBlock block) (h : s₀.Stage block i s) (hreset : .act .reset ∉ s.pending) :
    ∃ n t, s.advances (opsLeft i) n t ∧ s₀.Stage block .hlt t := by
  induction hleft : opsLeft i generalizing s i with
  | zero => exact ⟨0, s, s.advances_refl, h.eq_hlt hleft ▸ h⟩
  | succ k ih =>
    obtain ⟨i', m, u, hone, hstage, hleft'⟩ := h.advances_one hblock (hleft ▸ k.succ_ne_zero) hreset
    have hk : opsLeft i' = k := Nat.succ.inj (hleft'.symm.trans hleft)
    obtain ⟨n, t, hrest, hdone⟩ := ih hstage (hone.not_mem_pending hreset) hk
    exact ⟨m + n, t, Nat.add_comm 1 k ▸ hone.trans hrest, hdone⟩

end State.Stage

/-- The accepting step leaves an invocation before CHK. -/
theorem State.accepted_stage {s : State} (rest : List HostMove) (block : Vector Byte 64) :
    s.Stage block .chk (s.accepted rest) :=
  ⟨decode_encode (i := .chk) rfl, rfl, rfl, rfl, rfl, s.acceptStart_noResults⟩

/-- The accepting step, then the 131 micro-operations. -/
theorem runsTo_done {s : State} {i : Instr} {block : Vector Byte 64} {rest : List HostMove}
    (hdec : decode s.seq = .ok i) (hi : waits i) (hstart : s.presents rest) (hreset : .act .reset ∉ rest)
    (hblock : s.holdsBlock block) : ∃ n t, runsTo s rest 131 n t ∧ s.Stage block .hlt t := by
  obtain ⟨m, t, hrun, hdone⟩ := (State.accepted_stage rest block).advances_done hblock hreset
  exact ⟨m + 1, t, runsTo_of_advances (step_of_presents hdec hi hstart) rfl hrun, hdone⟩

/-- Settles O34: the run ends before HLT with the results in the stores. -/
theorem runComputesCompress : Obligations.RunComputesCompress := by
  intro s i block rest hdec hi hstart hreset hblock
  obtain ⟨n, t, hrun, hdone⟩ := runsTo_done hdec hi hstart hreset hblock
  obtain ⟨hvalid, hresults⟩ := hdone.stores
  exact ⟨n, t, hrun, (encode_of_decode hdone.dec).1.symm, hvalid, hdone.err, hresults,
    ⟨hdone.len, fun a => congrArg (·.read a) hdone.blk⟩, hdone.config⟩

end Sys2Proof.Machine

/-! The results of a block (spec/43_finalize.md R98, R99): functions of the block, K and IV, and what the host reads of
H (spec/45_host_interface.md R117). -/

namespace Sys2Proof.Machine

/-- The results of one block by the same K and IV are the same in every result store. -/
theorem State.holdsResults.sameResults {s t : State} {block : Vector Byte 64} (hs : s.holdsResults block)
    (ht : t.holdsResults block) (hk : t.config.k = s.config.k) (hiv : t.config.iv = s.config.iv) :
    s.sameResults t := by
  simp only [State.holdsResults, hk, hiv] at ht
  obtain ⟨hw, htrace, ⟨ha, hb, hc, hd, he, hf, hg, hh⟩, ht1, ht2, hhash⟩ := hs
  obtain ⟨hw', htrace', ⟨ha', hb', hc', hd', he', hf', hg', hh'⟩, ht1', ht2', hhash'⟩ := ht
  refine ⟨Vector.ext fun k hk => ?_, Vector.ext fun k hk => ?_, Vector.ext fun k hk => ?_, ?_, ?_⟩
  · exact (hw' ⟨k, hk⟩).trans (hw ⟨k, hk⟩).symm
  · exact (htrace' ⟨k, hk⟩).trans (htrace ⟨k, hk⟩).symm
  · exact (hhash' ⟨k, hk⟩).trans (hhash ⟨k, hk⟩).symm
  · exact ⟨ha'.trans ha.symm, hb'.trans hb.symm, hc'.trans hc.symm, hd'.trans hd.symm, he'.trans he.symm,
      hf'.trans hf.symm, hg'.trans hg.symm, hh'.trans hh.symm⟩
  · exact ⟨ht1'.trans ht1.symm, ht2'.trans ht2.symm⟩

theorem allValues_map_some {α : Type} (l : List α) : allValues (l.map some) = some l := by
  induction l with
  | nil => rfl
  | cons x l ih => simp only [List.map_cons, allValues, ih]

/-- With VALID = 1 the host reads the words that H holds. -/
theorem hostReadHash_of_holdsHash {s : State} {v : Vector Word 8} (hvalid : s.valid = true) (h : s.holdsHash v) :
    hostReadHash s = some v.toList := by
  have hhash : s.hash = v.map some := Vector.ext fun k hk => by simpa using h ⟨k, hk⟩
  rw [hostReadHash, State.gated, if_pos hvalid, hhash, Vector.toList_map, allValues_map_some]

theorem hostReadDigest_of_holdsHash {s : State} {v : Vector Word 8} (hvalid : s.valid = true) (h : s.holdsHash v) :
    hostReadDigest s = some (v.toList.flatMap bytes32) := by
  simp only [hostReadDigest, hostReadHash_of_holdsHash hvalid h]

/-- DIGEST is a view of H behind the VALID gate (10 R18). -/
theorem hostReadDigest_congr {s t : State} (hvalid : t.valid = s.valid) (hhash : t.hash = s.hash) :
    hostReadDigest t = hostReadDigest s := by
  simp only [hostReadDigest, hostReadHash, State.gated, hvalid, hhash]

/-- Settles O36: both runs end with the results of the block, and those are functions of the block, K and IV. -/
theorem equalBlocksGiveEqualResults : Obligations.EqualBlocksGiveEqualResults := by
  intro s s' i i' block rest rest' hdec hi hstart hreset hblock hdec' hi' hstart' hreset' hblock' hk hiv
  obtain ⟨n, t, hrun, hdone⟩ := runsTo_done hdec hi hstart hreset hblock
  obtain ⟨n', t', hrun', hdone'⟩ := runsTo_done hdec' hi' hstart' hreset' hblock'
  obtain ⟨hvalid, hresults⟩ := hdone.stores
  obtain ⟨hvalid', hresults'⟩ := hdone'.stores
  have hsame : t.sameResults t' := hresults.sameResults hresults'
    (by rw [hdone.config, hdone'.config, hk]) (by rw [hdone.config, hdone'.config, hiv])
  have ⟨_, _, hhash, _, _⟩ := hsame
  obtain ⟨-, -, -, -, -, hholds⟩ := hresults
  have hdigest := hostReadDigest_of_holdsHash hvalid hholds
  exact ⟨n, n', t, t', hrun, hrun', hsame, (hostReadDigest_congr (hvalid'.trans hvalid.symm) hhash).symm,
    hdigest ▸ rfl⟩

end Sys2Proof.Machine

/-! What a micro-operation can do, said once (spec/44_sequencer_control.md R103 to R106): accept a start, stay, take
InvalidInput, or go on with an invocation. -/

namespace Sys2Proof.Machine

theorem exec_of_waits_idle {i : Instr} {s : State} (hi : waits i) (hs : s.start = false) :
    exec i s = .next { s with seq := encode i } := by
  obtain rfl | rfl | rfl := hi <;> exact congrArg _ (awaitStart_idle _ s hs)

/-- Settles O20: the two ends of waiting, which WAIT, HLT and ERH share. -/
theorem waitingAcceptsStartOrStays : Obligations.WaitingAcceptsStartOrStays :=
  fun _ s hi => ⟨fun hs => ⟨s.acceptStart, exec_of_waits_start hi hs, rfl, rfl, rfl, s.acceptStart_noResults, rfl,
    ⟨rfl, fun _ => rfl⟩, rfl, rfl, rfl, rfl⟩, exec_of_waits_idle hi⟩

theorem opsLeft_eq_zero_iff {i : Instr} : opsLeft i = 0 ↔ waits i := by
  cases i with
  | wait | hlt | erh => simp [opsLeft, waits]
  | chk | ini | fin => simp [opsLeft, waits]
  | ldw | exp | rnd => simp only [opsLeft, waits, reduceCtorEq, or_self, iff_false]; omega

theorem opsLeft_eq_one_iff {i : Instr} : opsLeft i = 1 ↔ i = .fin := by
  cases i with
  | wait | hlt | erh | chk | ini | fin => simp [opsLeft]
  | ldw | exp | rnd => simp only [opsLeft, reduceCtorEq, iff_false]; omega

/-- `u` is what micro-operation `i` can leave of `s`. Of an invocation that goes on, the status only: its stores are
`exec_storesOf`. -/
inductive ExecEnd (i : Instr) (s u : State) : Prop
  | accepts (hi : waits i) (hs : s.start = true) (hu : u = s.acceptStart)
  | stays (hi : waits i) (hs : s.start = false) (hu : u = { s with seq := encode i })
  | raises (hi : i = .chk) (hlen : s.len ≠ 64) (hu : u = s.raiseInvalidInput)
  | goesOn (hleft : opsLeft i ≠ 0) (hlen : i = .chk → s.len = 64) (hvalid : u.valid = (s.valid || decide (i = .fin)))
      (herr : u.err = s.err) (hecode : u.ecode = s.ecode)

theorem execEnd_of_waits {i : Instr} {s u : State} (hi : waits i) (h : exec i s = .next u) : ExecEnd i s u := by
  cases hs : s.start with
  | false => cases (exec_of_waits_idle hi hs).symm.trans h; exact .stays hi hs rfl
  | true => cases (exec_of_waits_start hi hs).symm.trans h; exact .accepts hi hs rfl

theorem execEnd_of_exec {i : Instr} {s u : State} (h : exec i s = .next u) : ExecEnd i s u := by
  cases i with
  | wait => exact execEnd_of_waits (.inl rfl) h
  | hlt => exact execEnd_of_waits (.inr (.inl rfl)) h
  | erh => exact execEnd_of_waits (.inr (.inr rfl)) h
  | chk =>
    obtain ⟨hlen, rfl⟩ | ⟨hlen, rfl⟩ := execChk_next h
    · exact .goesOn (by decide) (fun _ => hlen) (by simp) rfl rfl
    · exact .raises rfl hlen rfl
  | ldw j =>
    cases (execLdw_eq j s).symm.trans h
    exact .goesOn (by simp only [opsLeft]; omega) (by simp) (by simp) rfl rfl
  | exp k =>
    obtain ⟨hk, -⟩ := execExp_next h
    cases (execExp_eq hk s).symm.trans h
    exact .goesOn (by simp only [opsLeft]; omega) (by simp) (by simp) rfl rfl
  | ini => cases h; exact .goesOn (by decide) (by simp) (by simp) rfl rfl
  | rnd k =>
    cases (execRnd_eq k s).symm.trans h
    exact .goesOn (by simp only [opsLeft]; omega) (by simp) (by simp [State.setRound]) rfl rfl
  | fin => cases h; exact .goesOn (by decide) (by simp) (by simp) rfl rfl

end Sys2Proof.Machine

/-! The invariant along a step (spec/44_sequencer_control.md R106, spec/10_state.md R11, R20, R25): its status part by
the micro-operation SEQ selects, its data part by what an invocation finds in the stores. -/

namespace Sys2Proof.Machine

/-- The status flags by the micro-operation that SEQ selects. -/
theorem State.statusInv_iff {s : State} {i : Instr} (hdec : decode s.seq = .ok i) :
    s.statusInv ↔ s.valid = decide (i = .hlt) ∧ s.err = decide (i = .erh) ∧
      s.ecode = if i = .erh then ecodeInvalidInput else ecodeNone := by
  have hseq {j : Instr} (hj : WellFormed j) : s.seq = encode j ↔ i = j := by
    rw [eq_comm, ← and_iff_left (a := encode j = s.seq) hj, ← decode_eq_ok_iff, hdec, Except.ok.injEq]
  have hflag (b : Bool) (p : Prop) [Decidable p] : (b = true ↔ p) ↔ b = decide p := by
    cases b <;> simp
  rw [State.statusInv, State.succeeded, State.failed, hseq rfl, hseq rfl, hflag, hflag]
  refine and_congr_right fun _ => and_congr_right fun herr => ?_
  rw [herr]
  simp only [decide_eq_true_eq]

theorem State.Inv.outside {s : State} (h : s.Inv) (pending : List HostMove) (start : Bool) (replies : List Reply) :
    State.Inv { s with pending := pending, start := start, replies := replies } := h

/-- A block buffer with LEN = 64 holds a block. -/
theorem State.blockInv.holdsBlock {s : State} (h : s.blockInv) (hlen : s.len = 64) : ∃ block, s.holdsBlock block := by
  obtain ⟨-, hvalues⟩ := h
  have hbyte (j : Fin 64) : ∃ b, s.blk.read j.val = some b :=
    Option.isSome_iff_exists.1 ((hvalues j).2 (j.isLt.trans_eq hlen.symm))
  choose byte hbyte using hbyte
  exact ⟨Vector.ofFn byte, hlen, fun j => by simp [hbyte]⟩

/-- The invariant before a micro-operation of an invocation names its block and what its stores hold. -/
theorem State.Inv.storesOf {s : State} {i : Instr} (h : s.Inv) (hdec : decode s.seq = .ok i) (hleft : opsLeft i ≠ 0)
    (hlen : i = .chk → s.len = 64) : ∃ block, s.holdsBlock block ∧ s.storesOf block i := by
  obtain ⟨-, -, hblock, hdata⟩ := h
  simp only [State.dataInv, hdec] at hdata
  cases i with
  | wait | hlt | erh => exact absurd rfl hleft
  | chk =>
    obtain ⟨block, hholds⟩ := hblock.holdsBlock (hlen rfl)
    exact ⟨block, hholds, hdata⟩
  | ldw | exp | ini => exact State.expanding_iff.1 hdata
  | rnd | fin => exact State.rounding_iff.1 hdata

theorem State.storesOf.dataInv {s : State} {block : Vector Byte 64} {i : Instr} (h : s.storesOf block i)
    (hblock : s.holdsBlock block) (hdec : decode s.seq = .ok i) : s.dataInv := by
  simp only [State.dataInv, hdec]
  cases i with
  | wait | erh => exact h.elim
  | chk => exact h
  | ldw | exp | ini => exact State.expanding_iff.2 ⟨block, hblock, h⟩
  | rnd | fin => exact State.rounding_iff.2 ⟨block, hblock, h⟩
  | hlt => exact ⟨block, h.2⟩

theorem State.storesOf.waits_iff {s : State} {block : Vector Byte 64} {i : Instr} (h : s.storesOf block i) :
    waits i ↔ i = .hlt := by
  refine ⟨?_, fun hi => .inr (.inl hi)⟩
  rintro (rfl | rfl | rfl)
  · exact h.elim
  · rfl
  · exact h.elim

/-- An accepted start: CHECK entered, no result store with a value. -/
theorem State.Inv.acceptStart {s : State} (h : s.Inv) : s.acceptStart.Inv := by
  obtain ⟨-, hlen, hblock, -⟩ := h
  have hdec : decode s.acceptStart.seq = .ok .chk := decode_encode (i := .chk) rfl
  exact ⟨(State.statusInv_iff hdec).2 ⟨rfl, rfl, rfl⟩, hlen, hblock,
    by simpa only [State.dataInv, hdec] using s.acceptStart_noResults⟩

/-- InvalidInput taken by CHK: ERROR entered, the results still without value. -/
theorem State.Inv.raiseInvalidInput {s : State} (h : s.Inv) (hchk : decode s.seq = .ok .chk) :
    s.raiseInvalidInput.Inv := by
  obtain ⟨hstatus, hlen, hblock, hdata⟩ := h
  obtain ⟨hvalid, -, -⟩ := (State.statusInv_iff hchk).1 hstatus
  have hdec : decode s.raiseInvalidInput.seq = .ok .erh := decode_encode (i := .erh) rfl
  have hnone : s.noResults := by simpa only [State.dataInv, hchk] using hdata
  exact ⟨(State.statusInv_iff hdec).2 ⟨hvalid, rfl, rfl⟩, hlen, hblock, by simp only [State.dataInv, hdec]; exact hnone⟩

/-- An invocation that goes on: the stores as its next micro-operation needs them, VALID set by FIN. -/
theorem State.Inv.goesOn {s u : State} {i : Instr} (h : s.Inv) (hdec : decode s.seq = .ok i)
    (hexec : exec i s = .next u) (hleft : opsLeft i ≠ 0) (hlen : i = .chk → s.len = 64)
    (hvalid : u.valid = (s.valid || decide (i = .fin))) (herr : u.err = s.err) (hecode : u.ecode = s.ecode) :
    u.Inv := by
  obtain ⟨block, hblock, hstores⟩ := h.storesOf hdec hleft hlen
  obtain ⟨i', u', hexec', hseq, hwf, hstores', hleft', -, -⟩ :=
    exec_storesOf hblock (encode_of_decode hdec).2 hleft hstores
  cases hexec'.symm.trans hexec
  obtain ⟨hstatus, hlenInv, hblockInv, -⟩ := h
  obtain ⟨hvalid₀, herr₀, hecode₀⟩ := (State.statusInv_iff hdec).1 hstatus
  obtain ⟨hblk, hlen'⟩ := exec_block hexec
  have hdec' : decode u.seq = .ok i' := hseq ▸ decode_encode hwf
  have hhlt : i ≠ .hlt := fun hi => hleft (hi ▸ rfl)
  have herh : i ≠ .erh := fun hi => hleft (hi ▸ rfl)
  have herh' : i' ≠ .erh := fun hi => (hi ▸ hstores' :)
  have hdone : i = .fin ↔ i' = .hlt := by
    rw [← opsLeft_eq_one_iff, ← hstores'.waits_iff, ← opsLeft_eq_zero_iff, hleft', Nat.add_eq_right]
  refine ⟨(State.statusInv_iff hdec').2 ⟨?valid, ?err, ?ecode⟩, ?len, ?block, hstores'.dataInv ?holds hdec'⟩
  case valid => simp [hvalid, hvalid₀, hhlt, hdone]
  case err => simp [herr, herr₀, herh, herh']
  case ecode => simp [hecode, hecode₀, herh, herh']
  case len => simpa only [State.lenInv, exec_config hexec, hlen'] using hlenInv
  case block => simpa only [State.blockInv, hblk, hlen'] using hblockInv
  case holds => simpa only [State.holdsBlock, hblk, hlen'] using hblock

/-- A micro-operation keeps the invariant. -/
theorem State.Inv.exec_next {s u : State} {i : Instr} (h : s.Inv) (hdec : decode s.seq = .ok i)
    (hexec : exec i s = .next u) : u.Inv := by
  cases execEnd_of_exec hexec with
  | accepts _ _ hu => exact hu ▸ h.acceptStart
  | stays _ _ hu =>
    rw [(encode_of_decode hdec).1] at hu
    exact hu ▸ h
  | raises hi _ hu => exact hu ▸ h.raiseInvalidInput (hi ▸ hdec)
  | goesOn hleft hlen hvalid herr hecode => exact h.goesOn hdec hexec hleft hlen hvalid herr hecode

/-- The bytes that H_LOAD stores are those below the saturated length: saturation starts above 64 (10 R12). -/
theorem isSome_read_loaded (bytes : List Byte) {lenw : Nat} (hlegal : 7 ≤ lenw) (j : Fin 64) :
    ((Memory.writeBytes [] 0 (bytes.take 64)).read j.val).isSome ↔ j.val < lengthOf lenw bytes.length := by
  have hsat : 2 ^ 7 ≤ 2 ^ lenw := Nat.pow_le_pow_right (by decide) hlegal
  have hlen : j.val < lengthOf lenw bytes.length ↔ j.val < bytes.length := by unfold lengthOf; omega
  have hread : (0 ≤ j.val ∧ j.val < 0 + (bytes.take 64).length) ↔ j.val < bytes.length := by
    rw [List.length_take]; omega
  rw [Memory.read_writeBytes, hlen]
  simp only [hread]
  by_cases hj : j.val < bytes.length <;> simp [hj]

/-- H_LOAD has no effect while BUSY = 1, and replaces the block buffer otherwise (45 R114, R120). -/
theorem hostLoad_cases (bytes : List Byte) (s : State) : s.busy = true ∧ hostLoad bytes s = s ∨
    s.busy = false ∧ hostLoad bytes s =
      s.setBlock (Memory.writeBytes [] 0 (bytes.take 64)) (lengthOf s.config.lenw bytes.length) := by
  cases hbusy : s.busy with
  | true => exact .inl ⟨rfl, if_pos hbusy⟩
  | false => exact .inr ⟨rfl, if_neg (by simp [hbusy])⟩

/-- H_LOAD between two invocations: no result store depends on the block buffer. -/
theorem State.Inv.setBlock {s : State} (h : s.Inv) (hbusy : s.busy = false) (bytes : List Byte) :
    (s.setBlock (Memory.writeBytes [] 0 (bytes.take 64)) (lengthOf s.config.lenw bytes.length)).Inv := by
  obtain ⟨i, hdec⟩ := h.decode_eq_ok
  obtain ⟨hstatus, ⟨hlegal, -⟩, -, hdata⟩ := h
  have hi : waits i :=
    opsLeft_eq_zero_iff.1 (by_contra fun hi => by simp [busy_of_opsLeft (encode_of_decode hdec).1.symm hi] at hbusy)
  have hwf : Memory.wf (Memory.writeBytes [] 0 (bytes.take 64)) := Memory.wf_writeBytes [] 0 _ Memory.wf_nil (by simp)
  refine ⟨hstatus, ⟨hlegal, lengthOf_lt _ _⟩, ⟨hwf, isSome_read_loaded bytes hlegal⟩, ?_⟩
  simp only [State.dataInv, hdec, State.setBlock_seq] at hdata ⊢
  obtain rfl | rfl | rfl := hi <;> exact hdata

/-- A transaction keeps the invariant. -/
theorem State.Inv.transact_next {s : State} {x : Transaction} (h : s.Inv) (hx : x ≠ .start) : (transact x s).Inv := by
  obtain ⟨bytes, -, ht⟩ | ⟨-, ht⟩ | ⟨r, ht⟩ := transact_cases s hx <;> rw [ht]
  · obtain ⟨-, hload⟩ | ⟨hbusy, hload⟩ := hostLoad_cases bytes s <;> rw [hload]
    · exact h
    · exact h.setBlock hbusy bytes
  · obtain ⟨-, ⟨hlegal, -⟩, -, -⟩ := h
    exact State.resetOf_inv hlegal
  · exact h

/-- Settles O24: a transaction keeps the invariant, and so does the micro-operation that SEQ selects. -/
theorem invariantKeptByEveryStep : Obligations.InvariantKeptByEveryStep := by
  intro s t hinv h
  obtain ⟨x, rest, -, hx, rfl⟩ | ⟨s', i, u, hturn, hdec, hexec, rfl⟩ := step_next h
  · exact (hinv.outside rest s.start s.replies).transact_next hx
  · rw [turnOf_sequencer hturn] at hexec
    exact ((hinv.outside s'.pending s'.start s.replies).exec_next hdec hexec).outside u.pending false u.replies

end Sys2Proof.Machine

/-! A step in DONE (spec/44_sequencer_control.md R104, spec/20_memory.md R39). -/

namespace Sys2Proof.Machine

theorem State.sameResults_refl (s : State) : s.sameResults s :=
  ⟨rfl, rfl, rfl, ⟨rfl, rfl, rfl, rfl, rfl, rfl, rfl, rfl⟩, rfl, rfl⟩

/-- A transaction other than H_RESET leaves the results, VALID and SEQ. -/
theorem transact_results {x : Transaction} (s : State) (hx : x ≠ .start) (hreset : x ≠ .reset) :
    s.sameResults (transact x s) ∧ (transact x s).valid = s.valid ∧ (transact x s).seq = s.seq := by
  obtain ⟨bytes, -, ht⟩ | ⟨hx', -⟩ | ⟨r, ht⟩ := transact_cases s hx
  · obtain ⟨-, hload⟩ | ⟨-, hload⟩ := hostLoad_cases bytes s <;> rw [ht, hload] <;>
      exact ⟨s.sameResults_refl, rfl, rfl⟩
  · exact absurd hx' hreset
  · rw [ht]; exact ⟨s.sameResults_refl, rfl, rfl⟩

/-- Without an H_START, and with no start standing in the state, the micro-operation sees none. -/
theorem turnOf_sequencer_start {s s' : State} (h : turnOf s = .sequencer s') (hs : s.start = false)
    (hmove : ∀ rest, s.pending ≠ .act .start :: rest) : s'.start = false := by
  unfold turnOf at h
  split at h <;> cases h
  · exact hs
  · rfl
  · next rest hp => exact absurd hp (hmove rest)

/-- Settles O33: a transaction short of a reset leaves the results, and HLT without a start stays. -/
theorem resultsStableWhileDone : Obligations.ResultsStableWhileDone := by
  intro s t hdone h hs hmove
  obtain ⟨x, rest, hpending, hx, rfl⟩ | ⟨s', i, u, hturn, hdec, hexec, rfl⟩ := step_next h
  · have hreset : x ≠ .reset := fun hx' => (hmove rest).2 (hx' ▸ hpending)
    obtain ⟨hresults, hvalid, hseq⟩ := transact_results { s with pending := rest } hx hreset
    exact ⟨hresults, hvalid, hseq.trans hdone⟩
  · have hhlt : i = .hlt := Except.ok.inj (hdec.symm.trans (hdone ▸ decode_encode (i := .hlt) rfl))
    have hs' : s'.start = false := turnOf_sequencer_start hturn hs fun rest => (hmove rest).1
    cases (exec_of_waits_idle (.inr (.inl hhlt)) hs').symm.trans hexec
    rw [turnOf_sequencer hturn, hhlt]
    exact ⟨s.sameResults_refl, rfl, rfl⟩

end Sys2Proof.Machine

/-! An invocation on a block of another length (spec/44_sequencer_control.md R108, spec/60_exceptions.md R131): the
host's transactions while BUSY = 1, and then CHK. -/

namespace Sys2Proof.Machine

/-- While BUSY = 1 a turn of the host short of a reset changes only the host's side of the state. -/
theorem turnOf_host_of_busy {s t : State} (hbusy : s.busy = true) (hreset : .act .reset ∉ s.pending)
    (hturn : turnOf s = .host t) : t = { s with pending := t.pending, replies := t.replies } := by
  obtain ⟨x, rest, hpending, hx, rfl⟩ := turnOf_host hturn
  have hxreset : x ≠ .reset := by
    rintro rfl
    simp [hpending] at hreset
  rw [transact_of_busy (s := { s with pending := rest }) hbusy hx hxreset]

/-- While BUSY = 1 the host's transactions short of a reset only use up its moves and hand out answers, until it is the
sequencer's turn. -/
theorem State.advances_to_sequencer {s : State} (hbusy : s.busy = true) (hreset : .act .reset ∉ s.pending) :
    ∃ n u s', s.advances 0 n u ∧ turnOf u = .sequencer s' ∧
      s' = { s with pending := s'.pending, start := s'.start, replies := s'.replies } := by
  cases hturn : turnOf s with
  | host v =>
    have hv := turnOf_host_of_busy hbusy hreset hturn
    have hone := State.advances_of_host hturn
    have hbusy' : v.busy = true := by rw [hv]; exact hbusy
    obtain ⟨n, u, s', hrun, hturn', hs'⟩ := advances_to_sequencer hbusy' (hone.not_mem_pending hreset)
    exact ⟨_, u, s', hone.trans hrun, hturn', by rw [hs', hv]⟩
  | sequencer s' => exact ⟨0, s, s', s.advances_refl, hturn, by rw [turnOf_sequencer hturn]⟩
termination_by s.pending.length
decreasing_by exact turnOf_host_length hturn

/-- Settles O35: the accepting step, the host's transactions, and CHK, which takes InvalidInput. -/
theorem wrongLengthEndsInError : Obligations.WrongLengthEndsInError := by
  intro s i rest hdec hi hstart hreset hlen
  have hbusy : (s.accepted rest).busy = true := busy_of_opsLeft (i := .chk) rfl (by decide)
  obtain ⟨n, u, v, hhost, hturn, hv⟩ := State.advances_to_sequencer hbusy hreset
  have hchk : decode v.seq = .ok .chk := by rw [hv]; exact decode_encode (i := .chk) rfl
  have hlen' : v.len ≠ 64 := by rw [hv]; exact hlen
  have hrun : runSequencer v = .next { v.raiseInvalidInput with start := false } :=
    (runSequencer_of_ok hchk).trans (congrArg dropStart (if_neg hlen'))
  have hall := hhost.trans (State.advances_of_sequencer hturn hrun rfl)
  refine ⟨_, _, runsTo_of_advances (step_of_presents hdec hi hstart) rfl hall, rfl, rfl, rfl, ?_⟩
  rw [hv]
  exact ⟨rfl, s.acceptStart_noResults, rfl, fun _ => rfl⟩

end Sys2Proof.Machine

/-! The next-SEQ table (spec/44_sequencer_control.md R106) as a function on micro-operations. -/

namespace Sys2Proof.Machine

/-- The micro-operation that follows `i`, by the start input and LEN. -/
def nextInstr (start : Bool) (len : Nat) : Instr → Instr
  | .wait => if start then .chk else .wait
  | .chk => if len = 64 then .ldw 0 else .erh
  | .ldw j => if h : j.val < 15 then .ldw ⟨j.val + 1, by omega⟩ else .exp 16
  | .exp i => if h : i.val < 63 then .exp ⟨i.val + 1, by omega⟩ else .ini
  | .ini => .rnd 0
  | .rnd i => if h : i.val < 63 then .rnd ⟨i.val + 1, by omega⟩ else .fin
  | .fin => .hlt
  | .hlt => if start then .chk else .hlt
  | .erh => if start then .chk else .erh

theorem nextInstr_wellFormed {i : Instr} (h : WellFormed i) (start : Bool) (len : Nat) :
    WellFormed (nextInstr start len i) := by
  cases i with
  | wait | hlt | erh => cases start <;> rfl
  | ini | fin => rfl
  | chk | ldw | rnd => simp only [nextInstr]; split <;> rfl
  | exp i =>
    have hi : 16 ≤ i.val := of_decide_eq_true h
    simp only [nextInstr]
    split
    · exact decide_eq_true (Nat.le_succ_of_le hi)
    · rfl

/-- The three runs of consecutive SEQ values in the table: inside LOAD, EXPAND and ROUNDS. -/
theorem tableNextSeq_consecutive {q : Nat} (start : Bool) (len : Nat)
    (hq : 0x080 ≤ q ∧ q ≤ 0x08E ∨ 0x0D0 ≤ q ∧ q ≤ 0x0FE ∨ 0x140 ≤ q ∧ q ≤ 0x17E) :
    tableNextSeq q start len = q + 1 := by
  unfold tableNextSeq
  obtain ⟨h, h'⟩ | ⟨h, h'⟩ | ⟨h, h'⟩ := hq
  · rw [if_neg (by omega), if_neg (by omega), if_pos h']
  · rw [if_neg (by omega), if_neg (by omega), if_neg (by omega), if_neg (by omega), if_pos h']
  · rw [if_neg (by omega), if_neg (by omega), if_neg (by omega), if_neg (by omega), if_neg (by omega),
      if_neg (by omega), if_neg (by omega), if_pos h']

/-- The next index of the same phase, where the table counts on. -/
theorem seqOf_succ_toNat {p : Phase} {n : Nat} (start : Bool) (len : Nat) (hn : n < 63)
    (hrow : p = .load ∧ n < 15 ∨ p = .expand ∧ 16 ≤ n ∨ p = .rounds) :
    (seqOf p (BitVec.ofNat 6 (n + 1))).toNat = tableNextSeq (seqOf p (BitVec.ofNat 6 n)).toNat start len := by
  have hload : Phase.load.code.toNat * 2 ^ 6 = 0x080 := rfl
  have hexpand : Phase.expand.code.toNat * 2 ^ 6 = 0x0C0 := rfl
  have hrounds : Phase.rounds.code.toNat * 2 ^ 6 = 0x140 := rfl
  rw [seqOf_ofNat_toNat p (by omega), seqOf_ofNat_toNat p (by omega), tableNextSeq_consecutive, Nat.add_assoc]
  obtain ⟨rfl, h⟩ | ⟨rfl, h⟩ | rfl := hrow <;> omega

/-- The word of micro-operation `i` goes to the word of the one that follows it. -/
theorem encode_nextInstr_toNat {i : Instr} (h : WellFormed i) (start : Bool) (len : Nat) :
    (encode (nextInstr start len i)).toNat = tableNextSeq (encode i).toNat start len := by
  cases i with
  | wait | hlt | erh => cases start <;> rfl
  | ini | fin => rfl
  | chk =>
    by_cases hlen : len = 64
    · subst hlen; rfl
    · rw [nextInstr, if_neg hlen]; exact (if_neg hlen).symm
  | ldw j =>
    by_cases hj : j.val < 15
    · rw [nextInstr, dif_pos hj]; exact seqOf_succ_toNat start len (by omega) (.inl ⟨rfl, hj⟩)
    · obtain rfl : j = 15 := by omega
      rfl
  | exp i =>
    have hi : 16 ≤ i.val := of_decide_eq_true h
    by_cases hlast : i.val < 63
    · rw [nextInstr, dif_pos hlast]; exact seqOf_succ_toNat start len hlast (.inr (.inl ⟨rfl, hi⟩))
    · obtain rfl : i = 63 := by omega
      rfl
  | rnd i =>
    by_cases hlast : i.val < 63
    · rw [nextInstr, dif_pos hlast]; exact seqOf_succ_toNat start len hlast (.inr (.inr rfl))
    · obtain rfl : i = 63 := by omega
      rfl

theorem awaitStart_seq (p : Phase) (s : State) :
    (awaitStart p s).seq = if s.start then encode .chk else seqOf p 0 := by
  cases hs : s.start with
  | false => rw [awaitStart_idle p s hs]; rfl
  | true => rw [awaitStart_start p s hs]; rfl

/-- A micro-operation moves SEQ on to the word of the one that follows. -/
theorem exec_seq {i : Instr} {s u : State} (h : exec i s = .next u) :
    u.seq = encode (nextInstr s.start s.len i) := by
  cases i with
  | wait | hlt | erh => cases h; rw [awaitStart_seq]; simp only [nextInstr]; split <;> rfl
  | ini | fin => cases h; rfl
  | chk => obtain ⟨hlen, rfl⟩ | ⟨hlen, rfl⟩ := execChk_next h <;> simp only [nextInstr, hlen, if_true, if_false] <;> rfl
  | ldw j => cases (execLdw_eq j s).symm.trans h; simp only [nextInstr]; split <;> rfl
  | exp k =>
    obtain ⟨hk, -⟩ := execExp_next h
    cases (execExp_eq hk s).symm.trans h
    simp only [nextInstr]; split <;> rfl
  | rnd k => cases (execRnd_eq k s).symm.trans h; simp only [nextInstr]; split <;> rfl

/-- The sequencer's turn moves SEQ on by the table. -/
theorem runSequencer_followsTable {s : State} {i : Instr} (hdec : decode s.seq = .ok i) :
    ∃ t, runSequencer s = .next t ∧ t.seq.toNat = tableNextSeq s.seq.toNat s.start s.len ∧
      ∃ i', decode t.seq = .ok i' := by
  obtain ⟨hseq, hwf⟩ := encode_of_decode hdec
  obtain ⟨u, hexec⟩ := exec_next_of_wellFormed hwf s
  have hu := exec_seq hexec
  refine ⟨{ u with start := false }, by rw [runSequencer_of_ok hdec, hexec, dropStart], ?_,
    _, hu ▸ decode_encode (nextInstr_wellFormed hwf _ _)⟩
  rw [← hseq, ← encode_nextInstr_toNat hwf, ← hu]

/-- Settles O23: the three moves that leave the step to the sequencer. -/
theorem nextSeqFollowsTheTable : Obligations.NextSeqFollowsTheTable := by
  rintro s ⟨i, hdec⟩
  refine ⟨fun h => ?_, fun rest h => ?_, fun rest h => ?_⟩
  · rw [step_of_no_move h]; exact runSequencer_followsTable hdec
  · rw [step_of_quiet h]; exact runSequencer_followsTable (s := { s with pending := rest, start := false }) hdec
  · rw [step_of_start h]; exact runSequencer_followsTable (s := { s with pending := rest, start := true }) hdec

end Sys2Proof.Machine

/-! The host's transactions as steps (spec/45_host_interface.md R113 to R115, R120): a transaction short of H_START has
a step of its own, and while BUSY = 1 neither an H_LOAD nor an H_START changes anything. -/

namespace Sys2Proof.Machine

/-- A move that is a transaction other than H_START is past the other arms of `turnOf`. -/
theorem turnOf_of_transaction {s : State} {x : Transaction} {rest : List HostMove} (h : s.pending = .act x :: rest)
    (hx : x ≠ .start) : turnOf s = .host (transact x { s with pending := rest }) := by
  simp only [turnOf, h]

/-- Settles O22: the turn is the host's, with its transaction done. -/
theorem transactionIsAStepOfItsOwn : Obligations.TransactionIsAStepOfItsOwn :=
  fun _ _ _ h hx => step_of_host (turnOf_of_transaction h hx)

/-- The store after H_LOAD: the bytes below offset 64, and no other value. -/
theorem read_loaded (bytes : List Byte) (j : Nat) :
    (Memory.writeBytes [] 0 (bytes.take 64)).read j = (bytes.take 64)[j]? := by
  rw [Memory.read_writeBytes, Memory.read_nil]
  by_cases hj : j < (bytes.take 64).length
  · rw [if_pos ⟨j.zero_le, by omega⟩, Nat.sub_zero]
  · rw [if_neg (by omega), List.getElem?_eq_none (not_lt.1 hj)]

theorem hostLoad_of_busy {s : State} (bytes : List Byte) (hbusy : s.busy = true) : hostLoad bytes s = s :=
  if_pos hbusy

theorem hostLoad_of_not_busy {s : State} (bytes : List Byte) (hbusy : s.busy = false) : hostLoad bytes s =
    s.setBlock (Memory.writeBytes [] 0 (bytes.take 64)) (lengthOf s.config.lenw bytes.length) :=
  if_neg (Bool.eq_false_iff.1 hbusy)

/-- Settles O45: with BUSY = 0 only BLK and LEN are replaced, BLK by the first 64 bytes. -/
theorem hostLoadStoresTheBlock : Obligations.HostLoadStoresTheBlock := by
  intro bytes s t
  refine ⟨hostLoad_of_busy bytes, fun hbusy => ?_⟩
  have ht : t = s.setBlock _ _ := hostLoad_of_not_busy bytes hbusy
  rw [ht]
  refine ⟨rfl, fun j hj => ?stored, fun j hj => ?valueless, rfl, ⟨rfl, rfl, rfl⟩, s.sameResults_refl,
    ⟨rfl, rfl, rfl, rfl⟩⟩
  case stored => exact (read_loaded bytes j).trans (List.getElem?_take_of_lt (by omega))
  case valueless => exact (read_loaded bytes j).trans (List.getElem?_eq_none (by rw [List.length_take]; omega))

/-- BUSY is a matter of the phase alone: 1 in CHECK to FINAL, 0 in the others and in the reserved ones (10 R20). -/
theorem State.busy_iff (s : State) : s.busy = true ↔ 1 ≤ s.seq.toNat / 64 ∧ s.seq.toNat / 64 ≤ 6 := by
  rw [← seqPhase_toNat]
  cases hp : Phase.ofCode (seqPhase s.seq) with
  | none =>
    have hcode := Phase.ofCode_eq_none_iff.1 hp
    simp only [State.busy, hp, Bool.false_eq_true, false_iff]
    omega
  | some p =>
    rw [Phase.ofCode_eq_some_iff.1 hp]
    cases p with
    | check | load | expand | init | rounds | final | idle | done | error => simp [State.busy, hp, Phase.code]

/-- While BUSY = 1 SEQ selects none of the three waiting micro-operations. -/
theorem opsLeft_ne_zero_of_busy {s : State} {i : Instr} (hbusy : s.busy = true) (hdec : decode s.seq = .ok i) :
    opsLeft i ≠ 0 := by
  rw [Ne, opsLeft_eq_zero_iff]
  intro hi
  obtain ⟨hseq, -⟩ := encode_of_decode hdec
  obtain rfl | rfl | rfl := hi <;> simp [State.busy, ← hseq, encode] at hbusy

/-- A micro-operation that does not wait makes nothing of its start input, and the end of the step drops it. -/
theorem dropStart_exec_of_opsLeft {i : Instr} (hi : opsLeft i ≠ 0) (s : State) (start : Bool) :
    dropStart (exec i { s with start := start }) = dropStart (exec i s) := by
  cases i with
  | wait | hlt | erh => exact absurd rfl hi
  | ini | fin => rfl
  | chk => simp only [exec, execChk]; split <;> rfl
  | ldw j => rw [execLdw_eq, execLdw_eq]; rfl
  | rnd k => rw [execRnd_eq, execRnd_eq]; rfl
  | exp k =>
    by_cases hk : 16 ≤ k.val
    · rw [execExp_eq hk, execExp_eq hk]; rfl
    · simp only [exec, execExp_of_lt (not_le.1 hk)]

theorem runSequencer_start_of_busy {s : State} (hbusy : s.busy = true) (start : Bool) :
    runSequencer { s with start := start } = runSequencer s := by
  cases hdec : decode s.seq with
  | ok i =>
    rw [runSequencer_of_ok hdec, runSequencer_of_ok (s := { s with start := start }) hdec,
      dropStart_exec_of_opsLeft (opsLeft_ne_zero_of_busy hbusy hdec)]
  | error why => rw [runSequencer_of_error hdec, runSequencer_of_error (s := { s with start := start }) hdec]

/-- Settles O46: H_LOAD by the busy lock, and H_START because no micro-operation that runs then looks at it. -/
theorem busyLockIgnoresLoadAndStart : Obligations.BusyLockIgnoresLoadAndStart := by
  refine fun s => ⟨s.busy_iff, fun hbusy => ⟨fun bytes => hostLoad_of_busy bytes hbusy, fun bytes rest h => ?load,
    fun rest => ?start⟩⟩
  case load =>
    have hstep := transactionIsAStepOfItsOwn s (.load bytes) rest h (by simp)
    exact hstep.trans (congrArg _ (hostLoad_of_busy (s := { s with pending := rest }) bytes hbusy))
  case start =>
    rw [step_of_start rfl, step_of_quiet rfl]
    exact runSequencer_start_of_busy (s := { s with pending := rest, start := false }) hbusy true

end Sys2Proof.Machine

/-! What the host's reads return (spec/45_host_interface.md R117, spec/70_reset_and_hazards.md R144): the VALID gate,
and behind it every element of a store that holds values. -/

namespace Sys2Proof.Machine

theorem State.gated_of_not_valid {α : Type} {s : State} (h : s.valid = false) (r : Option α) : s.gated r = none :=
  if_neg (Bool.eq_false_iff.1 h)

theorem State.gated_of_valid {α : Type} {s : State} (h : s.valid = true) (r : Option α) : s.gated r = r :=
  if_pos h

/-- Settles O47: the VALID gate, and the condition of H_READ_BLK. -/
theorem readsReturnNothingBehindTheGate : Obligations.ReadsReturnNothingBehindTheGate := by
  refine fun s => ⟨fun hvalid => ?results, fun hclosed => if_neg ?block⟩
  case results =>
    have hgate {α : Type} (r : Option α) : s.gated r = none := State.gated_of_not_valid hvalid r
    exact ⟨hgate _, hgate _, hgate _, hgate _, hostReadDigest_of_not_valid hvalid⟩
  case block =>
    rintro ⟨hbusy, hlen⟩
    obtain hbusy' | hlen' := hclosed
    · exact Bool.false_ne_true (hbusy.symm.trans hbusy')
    · exact hlen' hlen

/-- A store whose every element holds a value reads as those values. -/
theorem allValues_toList_of_some {α : Type} {n : Nat} {store : Vector (Option α) n} {v : Vector α n}
    (h : ∀ k : Fin n, store[k] = some v[k]) : allValues store.toList = some v.toList := by
  have hstore : store = v.map some := Vector.ext fun k hk => by simpa using h ⟨k, hk⟩
  rw [hstore, Vector.toList_map, allValues_map_some]

theorem State.tenRegs_of_some {s : State} {r : WorkingRegs} {x y : Word} (h : s.holdsRegs r) (hx : s.t1 = some x)
    (hy : s.t2 = some y) : s.tenRegs = some (r, x, y) := by
  obtain ⟨ha, hb, hc, hd, he, hf, hg, hh⟩ := h
  simp only [State.tenRegs, allValues, ha, hb, hc, hd, he, hf, hg, hh, hx, hy]

/-- Settles O48: VALID = 1 opens the gate, and every result store holds its values. -/
theorem readsReturnTheResults : Obligations.ReadsReturnTheResults := by
  intro s block hvalid hresults r
  obtain ⟨hwords, htrace, hregs, ht1, ht2, hhash⟩ := hresults
  have hgate {α : Type} (x : Option α) : s.gated x = x := State.gated_of_valid hvalid x
  refine ⟨(hgate _).trans ?words, (hgate _).trans ?trace, (hgate _).trans ?regs,
    hostReadHash_of_holdsHash hvalid hhash, hostReadDigest_of_holdsHash hvalid hhash⟩
  case words => exact allValues_toList_of_some fun k => (hwords k).trans (if_pos k.isLt)
  case trace => exact allValues_toList_of_some htrace
  case regs => exact State.tenRegs_of_some hregs ht1 ht2

/-- The 64 offsets of a held block, read in order. -/
theorem State.holdsBlock.map_read {s : State} {block : Vector Byte 64} (h : s.holdsBlock block) :
    (List.range 64).map s.blk.read = block.toList.map some := by
  obtain ⟨-, hbytes⟩ := h
  refine List.ext_getElem (by simp) fun j hj _ => ?_
  have hj' : j < 64 := by simpa using hj
  simpa using hbytes ⟨j, hj'⟩

/-- Settles O49: every offset holds its byte of the block. -/
theorem blockReadReturnsTheBytes : Obligations.BlockReadReturnsTheBytes := by
  intro s block hbusy hblock
  rw [hostReadBlk, if_pos ⟨hbusy, hblock.1⟩, hblock.map_read, allValues_map_some]

end Sys2Proof.Machine

/-! The padded block (spec/45_host_interface.md R119): 56 bytes of message, marker and zeros, then the bit length. -/

namespace Sys2Proof.Machine

/-- The first 56 bytes of the padded block of a message of at most 55 bytes. -/
def padHead (m : List Byte) : List Byte := m ++ [0x80] ++ List.replicate (55 - m.length) 0

/-- The bit length of an n-byte message as the last 8 bytes of its padded block. -/
def padLength (n : Nat) : List Byte := bytes32 (BitVec.ofNat 32 (8 * n / 2 ^ 32)) ++ bytes32 (BitVec.ofNat 32 (8 * n))

theorem padMessage_eq {m : List Byte} (h : m.length ≤ 55) : padMessage m = some (padHead m ++ padLength m.length) :=
  (if_pos h).trans (congrArg some (List.append_assoc _ _ _))

theorem padHead_length {m : List Byte} (h : m.length ≤ 55) : (padHead m).length = 56 := by
  simp only [padHead, List.length_append, List.length_singleton, List.length_replicate]
  omega

theorem padHead_message {m : List Byte} {j : Nat} (hj : j < m.length) : (padHead m)[j]? = m[j]? := by
  rw [padHead, List.append_assoc, List.getElem?_append_left hj]

theorem padHead_marker (m : List Byte) : (padHead m)[m.length]? = some 0x80 := by
  simp [padHead]

theorem padHead_zero {m : List Byte} {j : Nat} (hj : m.length < j) (hj' : j < 56) : (padHead m)[j]? = some 0 := by
  have hlen : (m ++ [(0x80 : Byte)]).length = m.length + 1 := List.length_append
  rw [padHead, List.getElem?_append_right (by omega), List.getElem?_replicate, if_pos (by omega)]

/-- Reading on over the four bytes of a word appends the word to the big-endian number read so far. -/
theorem foldl_bytes32 (v : Word) (n : Nat) :
    (bytes32 v).foldl (fun n x => n * 256 + x.toNat) n = n * 2 ^ 32 + v.toNat := by
  have hv := be32_toNat (v.extractLsb' 24 8) (v.extractLsb' 16 8) (v.extractLsb' 8 8) (v.extractLsb' 0 8)
  rw [be32_extractLsb'] at hv
  simp only [bytes32, List.foldl_cons, List.foldl_nil]
  omega

theorem padLength_value {n : Nat} (h : n ≤ 55) :
    (padLength n).foldl (fun n x => n * 256 + x.toNat) 0 = 8 * n := by
  rw [padLength, List.foldl_append, foldl_bytes32, foldl_bytes32, BitVec.toNat_ofNat, BitVec.toNat_ofNat]
  omega

/-- Settles O55: the first 56 bytes offset by offset, the last 8 by their value. -/
theorem paddedBlockLayout : Obligations.PaddedBlockLayout := by
  refine fun m => ⟨fun h => ?_, fun h => if_neg (not_le.2 h)⟩
  have hhead := padHead_length h
  have hbelow {j : Nat} (hj : j < 56) : (padHead m ++ padLength m.length)[j]? = (padHead m)[j]? :=
    List.getElem?_append_left (hhead ▸ hj)
  refine ⟨_, padMessage_eq h, ?length, fun j hj => ?message, ?marker, fun j hj hj' => ?zeros, ?bits⟩
  case length => rw [List.length_append, hhead]; rfl
  case message => exact (hbelow (by omega)).trans (padHead_message hj)
  case marker => exact (hbelow (by omega)).trans (padHead_marker m)
  case zeros => exact (hbelow hj').trans (padHead_zero hj hj')
  case bits => rw [List.drop_left' hhead, padLength_value h]

end Sys2Proof.Machine

/-! ERR along a step (spec/60_exceptions.md R125, R131): the transactions leave ERR or clear it, and of what a
micro-operation can do only taking InvalidInput sets it. -/

namespace Sys2Proof.Machine

@[simp] theorem State.acceptStart_err (s : State) : s.acceptStart.err = false := by
  simp [State.acceptStart]

@[simp] theorem hostLoad_err (bytes : List Byte) (s : State) : (hostLoad bytes s).err = s.err := by
  obtain ⟨-, hload⟩ | ⟨-, hload⟩ := hostLoad_cases bytes s <;> simp [hload]

/-- A transaction leaves ERR, but for H_RESET, which clears it. -/
theorem transact_err {x : Transaction} (s : State) (hx : x ≠ .start) :
    (transact x s).err = s.err ∨ (transact x s).err = false := by
  obtain ⟨bytes, -, ht⟩ | ⟨-, ht⟩ | ⟨r, ht⟩ := transact_cases s hx <;> simp [ht]

/-- A micro-operation that sets ERR is CHK on a length other than 64, and takes InvalidInput. -/
theorem exec_raises {i : Instr} {s u : State} (h : exec i s = .next u) (hs : s.err = false) (hu : u.err = true) :
    i = .chk ∧ s.len ≠ 64 ∧ u = s.raiseInvalidInput := by
  cases execEnd_of_exec h with
  | accepts _ _ hend => simp [hend] at hu
  | stays _ _ hend => cases hs.symm.trans (hend ▸ hu)
  | raises hi hlen hend => exact ⟨hi, hlen, hend⟩
  | goesOn _ _ _ herr _ => cases hs.symm.trans (herr.symm.trans hu)

/-- Settles O30: a transaction does not set ERR, and CHK leaves LEN when it takes InvalidInput. -/
theorem onlyChkRaisesInvalidInput : Obligations.OnlyChkRaisesInvalidInput := by
  intro s t h hs ht
  obtain ⟨x, rest, -, hx, rfl⟩ | ⟨s', i, u, hturn, hdec, hexec, rfl⟩ := step_next h
  · obtain hkept | hcleared := transact_err { s with pending := rest } hx
    · cases hs.symm.trans (hkept.symm.trans ht)
    · cases hcleared.symm.trans ht
  · rw [turnOf_sequencer hturn] at hexec
    obtain ⟨hi, hlen, rfl⟩ := exec_raises hexec hs ht
    exact ⟨hi ▸ hdec, hlen, rfl, rfl, rfl⟩

end Sys2Proof.Machine

/-! Reset, the busy lock and the read sets (spec/70_reset_and_hazards.md R140, R143, R149): H_RESET has its step at any
time, no other step writes the block buffer while BUSY = 1, and a micro-operation finds a value wherever it reads. -/

namespace Sys2Proof.Machine

theorem hostReset_noResults (s : State) : (hostReset s).noResults := State.resetOf_noResults s.config

/-- Settles O51: the step is the transaction, and the transaction is the reset state of the same configuration. -/
theorem resetAtAnyTime : Obligations.ResetAtAnyTime := by
  intro s rest h
  have hstep : step s = .next (hostReset { s with pending := rest }) :=
    transactionIsAStepOfItsOwn s .reset rest h (by simp)
  exact ⟨_, hstep, rfl, rfl, rfl, rfl, rfl, fun _ => rfl, hostReset_noResults _, rfl⟩

/-- While BUSY = 1 a transaction other than H_RESET leaves the block buffer. -/
theorem transact_block_of_busy {x : Transaction} {s : State} (hbusy : s.busy = true) (hx : x ≠ .start)
    (hreset : x ≠ .reset) : (transact x s).blk = s.blk ∧ (transact x s).len = s.len := by
  rw [transact_of_busy hbusy hx hreset]
  exact ⟨rfl, rfl⟩

/-- Settles O32: the busy lock for a transaction, and no micro-operation writes the block buffer. -/
theorem blockFixedWhileBusy : Obligations.BlockFixedWhileBusy := by
  intro s t hbusy h hmove
  obtain ⟨x, rest, hpending, hx, rfl⟩ | ⟨s', i, u, hturn, -, hexec, rfl⟩ := step_next h
  · have hreset : x ≠ .reset := fun hx' => hmove rest (hx' ▸ hpending)
    exact transact_block_of_busy (s := { s with pending := rest }) hbusy hx hreset
  · obtain ⟨hblk, hlen⟩ := exec_block hexec
    obtain ⟨hblk', hlen'⟩ := turnOf_sequencer_block hturn
    exact ⟨hblk.trans hblk', hlen.trans hlen'⟩

theorem State.holdsBlock.isSome_read {s : State} {block : Vector Byte 64} (h : s.holdsBlock block) (j : Fin 64) :
    (s.blk.read j.val).isSome :=
  Option.isSome_of_eq_some (h.2 j)

theorem State.holdsWords.isSome {s : State} {n : Nat} {w : Vector Word 64} (h : s.holdsWords n w) {k : Fin 64}
    (hk : k.val < n) : s.w[k].isSome :=
  Option.isSome_of_eq_some ((h k).trans (if_pos hk))

theorem State.holdsHash.isSome {s : State} {v : Vector Word 8} (h : s.holdsHash v) (k : Fin 8) : s.hash[k].isSome :=
  Option.isSome_of_eq_some (h k)

/-- Settles O27: the data part of the invariant, at the micro-operation that SEQ selects, gives every element of its
read set a value; those of EXP lie below its index. -/
theorem noReadOfAnElementWithoutValue : Obligations.NoReadOfAnElementWithoutValue := by
  rintro s i ⟨-, -, -, hdata⟩ hdec
  simp only [State.dataInv, hdec] at hdata
  cases i with
  | wait | chk | hlt | erh => trivial
  | ldw j =>
    obtain ⟨block, hblock, -⟩ := hdata
    exact fun m => hblock.isSome_read (byteIndex j m)
  | exp i =>
    obtain ⟨block, -, -, hwords, -⟩ := hdata
    exact fun p hp => hwords.isSome (by omega)
  | ini =>
    obtain ⟨block, -, hhash, -⟩ := hdata
    exact hhash.isSome
  | rnd i =>
    obtain ⟨block, -, -, hwords, hregs, -⟩ := hdata
    exact ⟨hwords.isSome i.isLt, _, hregs⟩
  | fin =>
    obtain ⟨block, -, hhash, -, hregs, -⟩ := hdata
    exact ⟨hhash.isSome, _, hregs⟩

end Sys2Proof.Machine
